-- ==== Sys2Proof/Word.lean ====
section
/-! DEFINITION. The two word types of the machine (spec/00_scope.md R5: 8 data bits, 16 address bits). -/

namespace Sys2Proof

/-- A byte: the machine's data width (R5). -/
abbrev Byte := BitVec 8

/-- A 16-bit value: an address, SP, PC or a register pair (R5, R22, R24, R25). -/
abbrev Word := BitVec 16

end Sys2Proof
end

