-- ==== Sys2Proof/Machine/Bits.lean ====
section
/-! DEFINITION. The byte-order, bit-field and sign-extension helpers that decoding, the bus and the instructions share
(spec/00_scope.md R7, R8; spec/20_memory.md R61). -/

namespace Sys2Proof.Machine

/-- The 16-bit value with high byte h and low byte l (R7). -/
def wordOf (h l : Byte) : Word := h ++ l

/-- The high byte of a 16-bit value (R23). -/
def hiByte (w : Word) : Byte := w.extractLsb' 8 8

/-- The low byte of a 16-bit value (R23). -/
def loByte (w : Word) : Byte := w.extractLsb' 0 8

/-- sext_8 (R8): a displacement byte as a 16-bit two's complement number. -/
def sext8 (e : Byte) : Word := e.signExtend 16

/-- Bit i of a byte (R7). -/
def bitOf (v : Byte) (i : Fin 8) : Bool := v.getLsbD i

/-- The byte with bit i set and every other bit clear. -/
def bitMask (i : Fin 8) : Byte := 1#8 <<< i.val

/-- The x field of an opcode byte, bits 7:6 (R101). -/
def fieldX (o : Byte) : Nat := o.toNat / 64

/-- The y field of an opcode byte, bits 5:3 (R101). -/
def fieldY (o : Byte) : Fin 8 := ⟨o.toNat / 8 % 8, Nat.mod_lt _ (by decide)⟩

/-- The z field of an opcode byte, bits 2:0 (R101). -/
def fieldZ (o : Byte) : Fin 8 := ⟨o.toNat % 8, Nat.mod_lt _ (by decide)⟩

end Sys2Proof.Machine
end

