-- ==== Sys2Proof/Config.lean ====
section
/-! DEFINITION. What an implementation fixes (the open parameters of spec/00_scope.md R6) and the free values ("draws") that
the spec leaves to the cartridge, the video controller and the stub windows (R6, R66, R67, R68). -/

namespace Sys2Proof

/-- What an access to an unmapped address does (spec/20_memory.md R70, decision D8). -/
inductive UnmappedPolicy where
  /-- The access ends the step with the fatal fault UnmappedAddress. -/
  | fatal
  /-- A read or fetch gives the open-bus byte, and a write is dropped. -/
  | openBus
  deriving DecidableEq, Repr

/-- The parameters that stay fixed while the machine runs (R6), each with the spec's default. They are plain data, so a
statement about every state is a statement about every setting of them. -/
structure Params where
  /-- EI_DELAYED (D1): EI takes effect after one more instruction (true) or at once (false). -/
  eiDelayed : Bool := true
  /-- UNMAPPED_POLICY (D8). -/
  unmappedPolicy : UnmappedPolicy := .fatal
  /-- OPEN_BUS_BYTE (D8): what an unmapped read gives under the open-bus policy. -/
  openBusByte : Byte := 0xFF
  /-- The lowest address of EXTRAM_WINDOW (D7), the external-RAM window routed to the cartridge. -/
  extRamFirst : Word := 0xA000
  /-- The highest address of EXTRAM_WINDOW (D7). -/
  extRamLast : Word := 0xBFFF
  deriving DecidableEq, Repr

/-- What reset takes from outside (R6, R40, R460): the cartridge's header checksum and the open reset contents. The defaults
are this model's own where the spec gives none: notes/assumptions/1.md, 2.md and 3.md. -/
structure ResetInputs where
  params : Params := {}
  /-- The cartridge's header checksum byte (D24). DESIGN CHOICE of the default: notes/assumptions/3.md. -/
  headerChecksum : Byte := 0x00
  /-- IF_RESET (D10). DESIGN CHOICE of the default: notes/assumptions/1.md. -/
  ifReset : Byte := 0x00
  /-- IE_RESET (D10). DESIGN CHOICE of the default: notes/assumptions/1.md. -/
  ieReset : Byte := 0x00
  /-- WRAM_INIT (D10), byte 0 first; what it does not reach reads as an unlisted address (notes/assumptions/2.md). -/
  wramInit : List Byte := []
  /-- HRAM_INIT (D10), byte 0 first; what it does not reach reads as an unlisted address (notes/assumptions/2.md). -/
  hramInit : List Byte := []
  deriving DecidableEq, Repr

namespace Machine

/-- The kind of a bus access, as a fault record and the bus trace name it (R70). -/
inductive Access where
  | fetch
  | read
  | write
  deriving DecidableEq, Repr

/-- One transaction of the bus trace (spec/20_memory.md R76): its kind, its address and the byte it moved. -/
structure BusEvent where
  access : Access
  addr : Word
  value : Byte
  deriving DecidableEq, Repr

end Machine

/-- A draw: the byte a collaborator or a stub answers at an address, after this many steps and these bus transactions. A free value,
with no body, so that nothing can be proved about it, and every transaction is free to have an effect on every later answer (R66,
R67, R68, R75, U3, U5; notes/assumptions/5.md). -/
opaque Config.freeByte : Nat → List Machine.BusEvent → Word → Byte

end Sys2Proof
end

