-- ==== Sys2Proof/Machine/Memory.lean ====
section
/-! DEFINITION. A memory as plain data: a list of (address, byte) pairs in one canonical form, with the operations that keep
that form. It holds the core's own storage (spec/10_state.md R35, R36). -/

namespace Sys2Proof.Machine

/-- A memory: (address, byte) pairs, addresses strictly rising. -/
abbrev Memory := List Host.Cell

/-- What an address that is not listed reads as, in the core's own storage. WRAM_INIT and HRAM_INIT are open (R40, U9).
DESIGN CHOICE, unsafe: notes/assumptions/2.md. -/
def Memory.unlisted : Byte := 0x00

/-- The byte listed at address a, if one is. -/
def Memory.find : Memory → Nat → Option Byte
  | [], _ => none
  | (k, v) :: m, a => if a = k then some v else Memory.find m a

/-- List byte v at address a, in its place. -/
def Memory.insert : Memory → Nat → Byte → Memory
  | [], a, v => [(a, v)]
  | (k, w) :: m, a, v =>
    if a < k then (a, v) :: (k, w) :: m
    else if a = k then (a, v) :: m
    else (k, w) :: Memory.insert m a v

/-- Take address a off the list. -/
def Memory.erase : Memory → Nat → Memory
  | [], _ => []
  | (k, w) :: m, a => if a = k then Memory.erase m a else (k, w) :: Memory.erase m a

/-- The byte the core's storage holds at address a (R64, R69). -/
def Memory.read (m : Memory) (a : Nat) : Byte := (m.find a).getD Memory.unlisted

/-- Store byte v at address a (R64, R69). Writing what an unlisted address reads as takes the entry off the list. -/
def Memory.write (m : Memory) (a : Nat) (v : Byte) : Memory :=
  if v = Memory.unlisted then m.erase a else m.insert a v

/-- Store a run of bytes at consecutive addresses from a (the reset contents, R40). -/
def Memory.load (m : Memory) : Nat → List Byte → Memory
  | _, [] => m
  | a, v :: vs => (m.write a v).load (a + 1) vs

/-- The addresses rise strictly. -/
abbrev Memory.Rising (m : Memory) : Prop := m.Pairwise fun x y => x.1 < y.1

/-- The canonical form of the core's storage: addresses strictly rising, and no entry equal to what an unlisted address reads
as, so that equal memories are equal lists. -/
abbrev Memory.wf (m : Memory) : Prop := Memory.Rising m ∧ ∀ c ∈ m, c.2 ≠ Memory.unlisted

end Sys2Proof.Machine
end

