-- ==== Sys2Proof/Machine/State.lean ====
section
/-! DEFINITION. The state of the machine as plain data (spec/10_state.md), the reasons a step can stop, and the state after
reset (spec/70_reset_and_hazards.md R460). -/

namespace Sys2Proof.Machine

/-- The answers the environment promises to the coming transactions of each collaborator, in order: the first byte answers its next
read, and so on. Each byte is promised to one transaction, not to an address: a second read of the same address has the next answer
(R66, R67, R75; notes/assumptions/5.md). -/
structure Answers where
  cartridge : List Byte := []
  video : List Byte := []
  deriving DecidableEq, Repr

/-- A fatal fault's record (R37, R420, R421, R423). -/
inductive FaultRecord where
  | unimplementedOpcode (opcode : Byte) (pc : Word)
  | unmappedAddress (addr : Word) (access : Access) (pc : Word)
  deriving DecidableEq, Repr

/-- What the host may do between two steps (spec/60_exceptions.md R430). It has no other move (D13). -/
inductive HostMove where
  /-- Peripherals raise requests: the mask is OR-ed into IF bits 4:0 (R412). -/
  | raise (mask : BitVec 5)
  /-- The stop-wake input clears the stopped flag (R392). -/
  | stopWake
  /-- The collaborators move on, and what they promise to answer from now on is this (R430: "collaborators' answers may change"). -/
  | answers (coming : Answers)
  deriving DecidableEq, Repr

/-- The state. The first group is the spec's own (10_state.md); the second is what the model adds, each field named in a log
entry: the parameters, the collaborators' promised answers, what a draw depends on, the host's scheduled moves and the outputs
of a step. -/
structure State where
  /-- The accumulator (R20). -/
  a : Byte
  /-- The flags register: Z N H C in bits 7:4, bits 3:0 always 0 (R21). -/
  f : Byte
  b : Byte
  c : Byte
  d : Byte
  e : Byte
  h : Byte
  l : Byte
  /-- The stack pointer (R24). -/
  sp : Word
  /-- The program counter (R25). -/
  pc : Word
  /-- IME, the interrupt master enable (R28). -/
  ime : Bool
  /-- The halted flag (R29). -/
  halted : Bool
  /-- ei_pending, the EI delay latch (R30). -/
  eiPending : Bool
  /-- The stopped flag (R31). -/
  stopped : Bool
  /-- IF, the requested bitset, at 0xFF0F (R32). -/
  ifReg : Byte
  /-- IE, the enabled bitset, at 0xFFFF (R33). -/
  ieReg : Byte
  /-- WRAM at 0xC000 to 0xDFFF and HRAM at 0xFF80 to 0xFFFE, under those addresses (R35, R36). -/
  ram : Memory
  /-- The fault record, if a fatal fault has happened (R37). -/
  faulted : Option FaultRecord
  /-- The open parameters of R6, which no step changes. -/
  params : Params
  /-- The answers promised to the collaborators' coming transactions: a claim's premise about them (R66, R67). A read with no
  promised answer is answered with a draw (notes/assumptions/5.md). -/
  answers : Answers
  /-- The number of steps begun, on which a draw depends: the collaborators move on between steps (R430). -/
  steps : Nat
  /-- The bus transactions of all earlier steps, on which a draw depends (R75). No other rule reads them. -/
  past : List BusEvent
  /-- The host's moves before each coming step, the next step's first (R430; notes/assumptions/6.md). -/
  inbox : List (List HostMove)
  /-- pc_start, the first byte's address of the instruction in flight (R146); used in fault records only. -/
  pcStart : Word
  /-- Output: the cycle count the last step returned (R151). -/
  cycles : Nat
  /-- Output: the bus transactions of the last step, in order (R76). -/
  trace : List BusEvent
  deriving DecidableEq, Repr

/-- Why the machine stops. A fault carries the state it leaves, since the effects before the faulting access stay (R422). -/
inductive Fault where
  /-- Raised by an instruction whose opcode byte has no table entry (R420). The spec's own fatal fault: safe. -/
  | unimplementedOpcode (opcode : Byte) (pc : Word) (left : State)
  /-- Raised by an access to an unmapped address under the fatal policy (R423). The spec's own fatal fault: safe. -/
  | unmappedAddress (addr : Word) (access : Access) (pc : Word) (left : State)
  /-- Raised by a step from a state whose faulted record is set: there is no further step (R140, R422). Safe. -/
  | noFurtherStep (record : FaultRecord)
  deriving DecidableEq, Repr

/-- Why an instruction has no meaning. -/
inductive Refusal where
  /-- Raised by an arm of exec for an instruction the model does not give a meaning yet. No arm raises it: safe. -/
  | notModelled (mnemonic : String)
  deriving DecidableEq, Repr

/-- The outcome of a step or of an instruction. -/
abbrev Out := Host.Outcome State Fault Refusal

/-- F after reset: Z if the header checksum is zero, else Z, H and C (R460). -/
def resetFlags (checksum : Byte) : Byte := if checksum = 0x00 then 0x80 else 0xB0

/-- The state after reset with the given reset inputs (R40, R460). -/
def State.resetWith (r : ResetInputs) : State where
  a := 0x01
  f := resetFlags r.headerChecksum
  b := 0x00
  c := 0x13
  d := 0x00
  e := 0xD8
  h := 0x01
  l := 0x4D
  sp := 0xFFFE
  pc := 0x0100
  ime := false
  halted := false
  eiPending := false
  stopped := false
  ifReg := r.ifReset
  ieReg := r.ieReset
  ram := (Memory.load [] 0xC000 (r.wramInit.take 8192)).load 0xFF80 (r.hramInit.take 127)
  faulted := none
  params := r.params
  answers := {}
  steps := 0
  past := []
  inbox := []
  pcStart := 0x0100
  cycles := 0
  trace := []

/-- The state after reset with this model's default reset inputs (notes/assumptions/1.md, 2.md, 3.md, 4.md). -/
def State.reset : State := State.resetWith {}

end Sys2Proof.Machine
end

