-- ==== Sys2Proof/Machine/Flags.lean ====
section
/-! DEFINITION. The flags register's fields and every result-and-flag computation the spec gives: the 8-bit ALU
(spec/41_alu8.md R170 to R176, R205), the 16-bit ALU (spec/42_alu16.md R230, R231) and the rotates, shifts and bit test
(spec/43_rotate_shift_bit.md R250 to R257, R278). -/

namespace Sys2Proof

/-- The eight ALU operations, in the order of their y field (R110). -/
inductive AluOp where
  | add | adc | sub | sbc | and | xor | or | cp
  deriving DecidableEq, Repr

/-- The eight rotate and shift operations of the extended table, in the order of their y field (R111). -/
inductive ShiftOp where
  | rlc | rrc | rl | rr | sla | sra | swap | srl
  deriving DecidableEq, Repr

/-- The condition field cc, in the order of its values (R107). -/
inductive Cond where
  | nz | z | nc | c
  deriving DecidableEq, Repr

end Sys2Proof

namespace Sys2Proof.Machine

/-- F.Z, bit 7 (R21). -/
def State.flagZ (s : State) : Bool := s.f.getLsbD 7
/-- F.N, bit 6 (R21). -/
def State.flagN (s : State) : Bool := s.f.getLsbD 6
/-- F.H, bit 5 (R21). -/
def State.flagH (s : State) : Bool := s.f.getLsbD 5
/-- F.C, bit 4 (R21). -/
def State.flagC (s : State) : Bool := s.f.getLsbD 4

/-- The F byte of four flags, low nibble 0 (R209). -/
def flagsByte (z n h c : Bool) : Byte :=
  (BitVec.ofBool z ++ BitVec.ofBool n ++ BitVec.ofBool h ++ BitVec.ofBool c) ++ 0#4

/-- Write all four flags (R209). -/
def State.setFlags (s : State) (z n h c : Bool) : State := { s with f := flagsByte z n h c }

/-- Write a whole byte to F: bits 3:0 are masked off on every write (R21). -/
def State.setF (s : State) (v : Byte) : State := { s with f := v &&& 0xF0 }

/-- cond(cc) of R360. -/
def condHolds (cc : Cond) (s : State) : Bool :=
  match cc with
  | .nz => !s.flagZ
  | .z => s.flagZ
  | .nc => !s.flagC
  | .c => s.flagC

/-- A byte result with the four flags (the tuple of R170 to R176). -/
structure AluOut where
  val : Byte
  z : Bool
  n : Bool
  h : Bool
  c : Bool
  deriving DecidableEq, Repr

/-- add8 (R170): the integer sum, its low byte, the carries out of bit 3 and bit 7. -/
def add8 (a b : Byte) (cin : Bool) : AluOut :=
  let s := a.toNat + b.toNat + cin.toNat
  let r := BitVec.ofNat 8 s
  { val := r, z := r == 0, n := false,
    h := decide (a.toNat % 16 + b.toNat % 16 + cin.toNat > 0xF), c := decide (s > 0xFF) }

/-- sub8 (R171): the integer difference, its low byte, the borrows into bit 3 and bit 7. -/
def sub8 (a b : Byte) (cin : Bool) : AluOut :=
  let d : Int := (a.toNat : Int) - b.toNat - cin.toNat
  let r := BitVec.ofInt 8 d
  { val := r, z := r == 0, n := true,
    h := decide (((a.toNat % 16 : Nat) : Int) - (b.toNat % 16 : Nat) - cin.toNat < 0), c := decide (d < 0) }

/-- and8 (R172). -/
def and8 (a b : Byte) : AluOut :=
  { val := a &&& b, z := (a &&& b) == 0, n := false, h := true, c := false }

/-- or8 (R173). -/
def or8 (a b : Byte) : AluOut :=
  { val := a ||| b, z := (a ||| b) == 0, n := false, h := false, c := false }

/-- xor8 (R174). -/
def xor8 (a b : Byte) : AluOut :=
  { val := a ^^^ b, z := (a ^^^ b) == 0, n := false, h := false, c := false }

/-- inc8 (R175): C passes through. -/
def inc8 (v : Byte) (cin : Bool) : AluOut :=
  let r := v + 1
  { val := r, z := r == 0, n := false, h := v.toNat % 16 == 0xF, c := cin }

/-- dec8 (R176): C passes through. -/
def dec8 (v : Byte) (cin : Bool) : AluOut :=
  let r := v - 1
  { val := r, z := r == 0, n := true, h := v.toNat % 16 == 0, c := cin }

/-- The tuple of an ALU operation on A, an operand and the carry flag (R177 to R200). CP computes what SUB computes. -/
def aluOut (op : AluOp) (a v : Byte) (carry : Bool) : AluOut :=
  match op with
  | .add => add8 a v false
  | .adc => add8 a v carry
  | .sub => sub8 a v false
  | .sbc => sub8 a v carry
  | .and => and8 a v
  | .xor => xor8 a v
  | .or => or8 a v
  | .cp => sub8 a v false

/-- Apply an ALU operation to A: A takes the result, except that CP does not write it (R189), and F takes the flags. -/
def State.alu (s : State) (op : AluOp) (v : Byte) : State :=
  let r := aluOut op s.a v s.flagC
  let t := s.setFlags r.z r.n r.h r.c
  match op with
  | .cp => t
  | _ => { t with a := r.val }

/-- The decimal adjustment of A (R205): the adjusted byte and the new carry. -/
def daaOut (a : Byte) (n h c : Bool) : Byte × Bool :=
  if n then
    let a1 := if c then a - 0x60 else a
    let a2 := if h then a1 - 0x06 else a1
    (a2, c)
  else
    let high := c || decide (a.toNat > 0x99)
    let a1 := if high then a + 0x60 else a
    let a2 := if h || decide (a.toNat % 16 > 0x09) then a1 + 0x06 else a1
    (a2, high)

/-- add16 (R230): the sum modulo 65536 with the carries out of bit 11 and bit 15. -/
def add16 (a b : Word) : Word × Bool × Bool :=
  let s := a.toNat + b.toNat
  (BitVec.ofNat 16 s, decide (a.toNat % 0x1000 + b.toNat % 0x1000 > 0x0FFF), decide (s > 0xFFFF))

/-- addsp (R231): the sum with the signed displacement, and the carries of the unsigned low-byte addition. -/
def addSp (sp : Word) (e : Byte) : Word × Bool × Bool :=
  (sp + sext8 e, decide (sp.toNat % 16 + e.toNat % 16 > 0x0F), decide (sp.toNat % 256 + e.toNat > 0xFF))

/-- rlc8 (R250): the result and the new carry. -/
def rlc8 (v : Byte) : Byte × Bool := ((v <<< 1) ||| (v >>> 7), v.getLsbD 7)

/-- rrc8 (R251). -/
def rrc8 (v : Byte) : Byte × Bool := ((v >>> 1) ||| (v <<< 7), v.getLsbD 0)

/-- rl8 (R252). -/
def rl8 (v : Byte) (cin : Bool) : Byte × Bool := ((v <<< 1) ||| BitVec.ofNat 8 cin.toNat, v.getLsbD 7)

/-- rr8 (R253). -/
def rr8 (v : Byte) (cin : Bool) : Byte × Bool := ((v >>> 1) ||| (BitVec.ofNat 8 cin.toNat <<< 7), v.getLsbD 0)

/-- sla8 (R254). -/
def sla8 (v : Byte) : Byte × Bool := (v <<< 1, v.getLsbD 7)

/-- sra8 (R255): bit 7 is kept. -/
def sra8 (v : Byte) : Byte × Bool := ((v >>> 1) ||| (v &&& 0x80), v.getLsbD 0)

/-- swap8 (R256): the nibbles change places, and the carry is 0. -/
def swap8 (v : Byte) : Byte × Bool := (((v &&& 0x0F) <<< 4) ||| (v >>> 4), false)

/-- srl8 (R257). -/
def srl8 (v : Byte) : Byte × Bool := (v >>> 1, v.getLsbD 0)

/-- The result and the carry of a rotate or shift (R250 to R257). -/
def shiftOut (op : ShiftOp) (v : Byte) (cin : Bool) : Byte × Bool :=
  match op with
  | .rlc => rlc8 v
  | .rrc => rrc8 v
  | .rl => rl8 v cin
  | .rr => rr8 v cin
  | .sla => sla8 v
  | .sra => sra8 v
  | .swap => swap8 v
  | .srl => srl8 v

/-- The flags of an extended-table rotate or shift: Z from the result, N and H clear, C the carry (43, section 3). -/
def State.shiftFlags (s : State) (r : Byte × Bool) : State := s.setFlags (r.1 == 0) false false r.2

/-- The flags of BIT (R278): Z is the complement of the bit, N clear, H set, C kept. -/
def State.bitFlags (s : State) (bit : Bool) : State := s.setFlags (!bit) false true s.flagC

/-- RES (R280): the byte with bit i clear. -/
def resetBit (v : Byte) (i : Fin 8) : Byte := v &&& ~~~(bitMask i)

/-- SET (R282): the byte with bit i set. -/
def setBit (v : Byte) (i : Fin 8) : Byte := v ||| bitMask i

end Sys2Proof.Machine
end

