-- ==== Sys2Proof/Machine/Operands.lean ====
section
/-! DEFINITION. The operand forms: the 8-bit registers and the pair views (spec/10_state.md R20, R22, R23; spec/30_encoding.md
R103 to R105), and the effective addresses of the high page (spec/44_loads8.md). -/

namespace Sys2Proof

/-- The r8 field's registers (R103); its value 6 names memory at HL and has forms of its own. -/
inductive Reg8 where
  | b | c | d | e | h | l | a
  deriving DecidableEq, Repr

/-- The rp field's pairs, in the order of its values (R104). -/
inductive Pair where
  | bc | de | hl | sp
  deriving DecidableEq, Repr

/-- The rp2 field's pairs, in the order of its values (R105). -/
inductive StackPair where
  | bc | de | hl | af
  deriving DecidableEq, Repr

end Sys2Proof

namespace Sys2Proof.Machine

/-- Read an 8-bit register (R20). -/
def State.reg (s : State) (r : Reg8) : Byte :=
  match r with
  | .b => s.b
  | .c => s.c
  | .d => s.d
  | .e => s.e
  | .h => s.h
  | .l => s.l
  | .a => s.a

/-- Write an 8-bit register (R20). -/
def State.setReg (s : State) (r : Reg8) (v : Byte) : State :=
  match r with
  | .b => { s with b := v }
  | .c => { s with c := v }
  | .d => { s with d := v }
  | .e => { s with e := v }
  | .h => { s with h := v }
  | .l => { s with l := v }
  | .a => { s with a := v }

/-- The BC view (R22). -/
def State.bc (s : State) : Word := wordOf s.b s.c
/-- The DE view (R22). -/
def State.de (s : State) : Word := wordOf s.d s.e
/-- The HL view (R22). -/
def State.hl (s : State) : Word := wordOf s.h s.l
/-- The AF view (R22). -/
def State.af (s : State) : Word := wordOf s.a s.f

/-- Write HL (R23). -/
def State.setHl (s : State) (v : Word) : State := { s with h := hiByte v, l := loByte v }

/-- Read a pair of the rp field (R22, R104). -/
def State.pair (s : State) (p : Pair) : Word :=
  match p with
  | .bc => s.bc
  | .de => s.de
  | .hl => s.hl
  | .sp => s.sp

/-- Write a pair of the rp field: the high register takes bits 15:8, the low register bits 7:0 (R23). -/
def State.setPair (s : State) (p : Pair) (v : Word) : State :=
  match p with
  | .bc => { s with b := hiByte v, c := loByte v }
  | .de => { s with d := hiByte v, e := loByte v }
  | .hl => s.setHl v
  | .sp => { s with sp := v }

/-- Read a pair of the rp2 field (R22, R105). -/
def State.stackPair (s : State) (p : StackPair) : Word :=
  match p with
  | .bc => s.bc
  | .de => s.de
  | .hl => s.hl
  | .af => s.af

/-- Write a pair of the rp2 field. Writing AF masks F's bits 3:0 (R21, R23). -/
def State.setStackPair (s : State) (p : StackPair) (v : Word) : State :=
  match p with
  | .bc => { s with b := hiByte v, c := loByte v }
  | .de => { s with d := hiByte v, e := loByte v }
  | .hl => s.setHl v
  | .af => { s with a := hiByte v }.setF (loByte v)

/-- The high-page address 0xFF00 + n (44_loads8.md). -/
def highPage (n : Byte) : Word := wordOf 0xFF n

end Sys2Proof.Machine
end

