-- ==== Sys2Proof/Machine/Ops.lean ====
section
/-! DEFINITION. The shared operations: the address decoder and the bus (spec/20_memory.md), the stack (spec/00_scope.md R12),
interrupt entry and the return from it (spec/60_exceptions.md R416, R425; spec/46_control.md R370), and the host's moves
(R430). -/

namespace Sys2Proof.Machine

/-- The regions of the address decoder (R62). -/
inductive Region where
  | cartridge
  | workRam
  | echo
  | serialStub
  | interruptFlag
  | soundStub
  | video
  | highRam
  | interruptEnable
  | unmapped
  deriving DecidableEq, Repr

/-- The address decoder (R62). The external-RAM window is a parameter (D7); it takes only addresses that no named region has
(notes/assumptions/7.md). -/
def region (p : Params) (a : Word) : Region :=
  let n := a.toNat
  if n ≤ 0x7FFF then .cartridge
  else if 0xC000 ≤ n ∧ n ≤ 0xDFFF then .workRam
  else if 0xE000 ≤ n ∧ n ≤ 0xFDFF then .echo
  else if 0xFF01 ≤ n ∧ n ≤ 0xFF02 then .serialStub
  else if n = 0xFF0F then .interruptFlag
  else if 0xFF10 ≤ n ∧ n ≤ 0xFF26 then .soundStub
  else if 0xFF40 ≤ n ∧ n ≤ 0xFF4A then .video
  else if 0xFF80 ≤ n ∧ n ≤ 0xFFFE then .highRam
  else if n = 0xFFFF then .interruptEnable
  else if p.extRamFirst.toNat ≤ n ∧ n ≤ p.extRamLast.toNat then .cartridge
  else .unmapped

/-- The address under which a byte of the core's RAM is stored: an echo address names the byte 0x2000 lower (R65). -/
def ramAddr (r : Region) (a : Word) : Nat :=
  match r with
  | .echo => a.toNat - 0x2000
  | _ => a.toNat

/-- Whether an access to an address goes on: it is mapped, or the policy is open bus (R70). -/
def State.accessible (s : State) (a : Word) : Bool :=
  region s.params a != .unmapped || s.params.unmappedPolicy == .openBus

/-- The model's read of one byte, without an access: what the core stores at a, or the open-bus byte (R64, R65, R69, R70). None
where a collaborator or a stub answers, and at an unmapped address under the fatal policy. -/
def State.byteAt (s : State) (a : Word) : Option Byte :=
  match region s.params a with
  | .workRam => some (s.ram.read (ramAddr .workRam a))
  | .echo => some (s.ram.read (ramAddr .echo a))
  | .highRam => some (s.ram.read (ramAddr .highRam a))
  | .interruptFlag => some s.ifReg
  | .interruptEnable => some s.ieReg
  | .cartridge => none
  | .video => none
  | .serialStub => none
  | .soundStub => none
  | .unmapped => if s.params.unmappedPolicy = .openBus then some s.params.openBusByte else none

/-- The answers promised to the coming reads in a region: a collaborator's, in its own window. A stub promises nothing (R68). -/
def Answers.promised (p : Answers) : Region → List Byte
  | .cartridge => p.cartridge
  | .video => p.video
  | .workRam | .echo | .serialStub | .interruptFlag | .soundStub | .highRam | .interruptEnable | .unmapped => []

/-- The promises after a read in a region: a collaborator's read uses up its next answer (R75). -/
def Answers.used (p : Answers) : Region → Answers
  | .cartridge => { p with cartridge := p.cartridge.tail }
  | .video => { p with video := p.video.tail }
  | .workRam | .echo | .serialStub | .interruptFlag | .soundStub | .highRam | .interruptEnable | .unmapped => p

/-- The promises after a write in a region: a write to a collaborator may change all its later answers, so none of them is promised
any more (R75). -/
def Answers.withdrawn (p : Answers) : Region → Answers
  | .cartridge => { p with cartridge := [] }
  | .video => { p with video := [] }
  | .workRam | .echo | .serialStub | .interruptFlag | .soundStub | .highRam | .interruptEnable | .unmapped => p

/-- The byte that answers a read of a where nothing is promised: a draw, which every earlier transaction may have an effect on (R66 to
R68, R75). -/
def State.draw (s : State) (a : Word) : Byte := Config.freeByte s.steps (s.past ++ s.trace) a

/-- The byte a read or fetch of a gives: the byte there, or the collaborator's next promised answer, or a draw (R64 to R70). -/
def State.readValue (s : State) (a : Word) : Byte :=
  (s.byteAt a).getD ((s.answers.promised (region s.params a)).headD (s.draw a))

/-- The state after a read or fetch of a: a collaborator's promised answer is used up, and the transaction is recorded (R75, R76). -/
def State.afterRead (s : State) (kind : Access) (a : Word) : State :=
  { s with
    answers := s.answers.used (region s.params a)
    trace := s.trace ++ [⟨kind, a, s.readValue a⟩] }

/-- The state after a write of v to a. RAM, IF and IE store it (R64, R69); the cartridge and video ports take it away from the
core (R66, R67, U6), and promise no later answer any more (R75); a stub or an open-bus address drops it (R68, R70). The transaction
is recorded (R76). -/
def State.afterWrite (s : State) (a : Word) (v : Byte) : State :=
  let t := { s with answers := s.answers.withdrawn (region s.params a), trace := s.trace ++ [⟨.write, a, v⟩] }
  match region s.params a with
  | .workRam => { t with ram := s.ram.write (ramAddr .workRam a) v }
  | .echo => { t with ram := s.ram.write (ramAddr .echo a) v }
  | .highRam => { t with ram := s.ram.write (ramAddr .highRam a) v }
  | .interruptFlag => { t with ifReg := v }
  | .interruptEnable => { t with ieReg := v }
  | .cartridge => t
  | .video => t
  | .serialStub => t
  | .soundStub => t
  | .unmapped => t

/-- raise UnmappedAddress (R422, R423): the record is set, and the effects so far stay. -/
def raiseUnmapped (a : Word) (kind : Access) (s : State) : Out :=
  .fault (.unmappedAddress a kind s.pcStart { s with faulted := some (.unmappedAddress a kind s.pcStart) })

/-- raise UnimplementedOpcode (R420, R422): the record is set, and the effects so far stay. -/
def raiseUnimplemented (o : Byte) (s : State) : Out :=
  .fault (.unimplementedOpcode o s.pcStart { s with faulted := some (.unimplementedOpcode o s.pcStart) })

/-- A step's successful end: the cycle count is returned (R140, R151). -/
def done (cycles : Nat) (s : State) : Out := .next { s with cycles := cycles }

/-- MemRead(a, 1) as a data read, then the rest of the instruction (R10). -/
def withRead (a : Word) (s : State) (k : Byte → State → Out) : Out :=
  if s.accessible a then k (s.readValue a) (s.afterRead .read a) else raiseUnmapped a .read s

/-- MemWrite(a, 1, v), then the rest of the instruction (R10). -/
def withWrite (a : Word) (v : Byte) (s : State) (k : State → Out) : Out :=
  if s.accessible a then k (s.afterWrite a v) else raiseUnmapped a .write s

/-- Fetch8 (R11): a read of the instruction stream at PC, which then moves on by one, modulo 65536. -/
def withFetch (s : State) (k : Byte → State → Out) : Out :=
  if s.accessible s.pc then
    k (s.readValue s.pc) { s.afterRead .fetch s.pc with pc := s.pc + 1 }
  else raiseUnmapped s.pc .fetch s

/-- MemRead(a, 2): low byte first, at the lower address (R10, D4). -/
def withRead16 (a : Word) (s : State) (k : Word → State → Out) : Out :=
  withRead a s fun lo s1 => withRead (a + 1) s1 fun hi s2 => k (wordOf hi lo) s2

/-- MemWrite(a, 2, v): low byte first, at the lower address (R10, D4). -/
def withWrite16 (a v : Word) (s : State) (k : State → Out) : Out :=
  withWrite a (loByte v) s fun s1 => withWrite (a + 1) (hiByte v) s1 k

/-- Push16 (R12): SP goes down by 2 before the writes. -/
def withPush (v : Word) (s : State) (k : State → Out) : Out :=
  withWrite16 (s.sp - 2) v { s with sp := s.sp - 2 } k

/-- Pop16 (R12): SP goes up by 2 after the reads. -/
def withPop (s : State) (k : Word → State → Out) : Out :=
  withRead16 s.sp s fun v t => k v { t with sp := s.sp + 2 }

/-- The pending set: requested and enabled, bits 4:0 (R414). -/
def State.pending (s : State) : Byte := s.ifReg &&& s.ieReg &&& 0x1F

/-- highest(pending): the index of the lowest set bit (R415). -/
def highest (p : Byte) : Nat :=
  if p.getLsbD 0 then 0
  else if p.getLsbD 1 then 1
  else if p.getLsbD 2 then 2
  else if p.getLsbD 3 then 3
  else 4

/-- The vector of source k (R34, R416). -/
def vectorOf (k : Nat) : Word := BitVec.ofNat 16 (0x0040 + 8 * k)

/-- Interrupt entry (R416): IME is cleared, PC is pushed, PC takes the vector of the highest pending source and that source's
request bit is cleared. The source is chosen from what was pending before the push (R153, I8). A fault record of the push
carries the PC being pushed (R421). -/
def service (s : State) : Out :=
  let k := highest s.pending
  withPush s.pc { s with halted := false, ime := false, pcStart := s.pc } fun t =>
    done 20 { t with pc := vectorOf k, ifReg := t.ifReg &&& ~~~(1#8 <<< k) }

/-- The return from an interrupt handler (R370, R425): PC is popped and IME set at once. -/
def returnFromInterrupt (s : State) : Out :=
  withPop s fun v t => done 16 { t with pc := v, ime := true }

/-- One host move (R430). A raised mask reaches IF bits 4:0 only. -/
def HostMove.apply (s : State) : HostMove → State
  | .raise mask => { s with ifReg := s.ifReg ||| mask.setWidth 8 }
  | .stopWake => { s with stopped := false }
  | .answers coming => { s with answers := coming }

/-- The host's moves before this step (R430; notes/assumptions/6.md). -/
def State.takeInbox (s : State) : State :=
  match s.inbox with
  | [] => s
  | moves :: rest => moves.foldl HostMove.apply { s with inbox := rest }

/-- What the debug accessor reads (R440). -/
structure DebugView where
  a : Byte
  f : Byte
  b : Byte
  c : Byte
  d : Byte
  e : Byte
  h : Byte
  l : Byte
  sp : Word
  pc : Word
  ime : Bool
  halted : Bool
  stopped : Bool
  eiPending : Bool
  faulted : Option FaultRecord
  deriving DecidableEq, Repr

/-- The debug accessor (R440): a reading, which changes nothing. -/
def State.debugView (s : State) : DebugView where
  a := s.a
  f := s.f
  b := s.b
  c := s.c
  d := s.d
  e := s.e
  h := s.h
  l := s.l
  sp := s.sp
  pc := s.pc
  ime := s.ime
  halted := s.halted
  stopped := s.stopped
  eiPending := s.eiPending
  faulted := s.faulted

end Sys2Proof.Machine
end

