-- ==== Sys2Proof/Machine/Alu16.lean ====
section
/-! DEFINITION. 16-bit arithmetic (spec/42_alu16.md): the shared meaning of each form, then one definition per instruction. -/

namespace Sys2Proof.Machine

/-- INC rr (R232): no flag changes. -/
def incPair (p : Pair) (s : State) : Out := done 8 (s.setPair p (s.pair p + 1))

/-- DEC rr (R233): no flag changes. -/
def decPair (p : Pair) (s : State) : Out := done 8 (s.setPair p (s.pair p - 1))

/-- ADD HL,rr (R234): Z kept. -/
def addHl (p : Pair) (s : State) : Out :=
  let r := add16 s.hl (s.pair p)
  done 8 ((s.setHl r.1).setFlags s.flagZ false r.2.1 r.2.2)

/-- ADD SP,e (R235). -/
def addSpDisp (e : Byte) (s : State) : Out :=
  let r := addSp s.sp e
  done 16 ({ s with sp := r.1 }.setFlags false false r.2.1 r.2.2)

/-- ADD SP,e (R235). -/
def execAddSpE8 (e : Byte) (s : State) : Out := addSpDisp e s

/-- INC BC (R232). -/
def execIncBc (s : State) : Out := incPair .bc s

/-- ADD HL,BC (R234). -/
def execAddHlBc (s : State) : Out := addHl .bc s

/-- DEC BC (R233). -/
def execDecBc (s : State) : Out := decPair .bc s

/-- INC DE (R232). -/
def execIncDe (s : State) : Out := incPair .de s

/-- ADD HL,DE (R234). -/
def execAddHlDe (s : State) : Out := addHl .de s

/-- DEC DE (R233). -/
def execDecDe (s : State) : Out := decPair .de s

/-- INC HL (R232). -/
def execIncHl (s : State) : Out := incPair .hl s

/-- ADD HL,HL (R234). -/
def execAddHlHl (s : State) : Out := addHl .hl s

/-- DEC HL (R233). -/
def execDecHl (s : State) : Out := decPair .hl s

/-- INC SP (R232). -/
def execIncSp (s : State) : Out := incPair .sp s

/-- ADD HL,SP (R234). -/
def execAddHlSp (s : State) : Out := addHl .sp s

/-- DEC SP (R233). -/
def execDecSp (s : State) : Out := decPair .sp s

end Sys2Proof.Machine
end

