-- ==== Sys2Proof/Machine/Alu8.lean ====
section
/-! DEFINITION. The 8-bit ALU and flag instructions (spec/41_alu8.md): the shared meaning of each form, then one definition per
instruction. -/

namespace Sys2Proof.Machine

/-- An ALU operation with a register operand (R177, R180, R183, R186, R189, R192, R195, R198). -/
def aluReg (op : AluOp) (r : Reg8) (s : State) : Out := done 4 (s.alu op (s.reg r))

/-- An ALU operation with the byte at HL (R178, R181, R184, R187, R190, R193, R196, R199). -/
def aluMem (op : AluOp) (s : State) : Out := withRead s.hl s fun v t => done 8 (t.alu op v)

/-- An ALU operation with an immediate byte (R179, R182, R185, R188, R191, R194, R197, R200). -/
def aluImm (op : AluOp) (n : Byte) (s : State) : Out := done 8 (s.alu op n)

/-- INC r (R201). -/
def incReg (r : Reg8) (s : State) : Out :=
  let o := inc8 (s.reg r) s.flagC
  done 4 ((s.setReg r o.val).setFlags o.z o.n o.h o.c)

/-- INC (HL) (R202): read, then write the same address. -/
def incMem (s : State) : Out :=
  withRead s.hl s fun v t =>
    let o := inc8 v t.flagC
    withWrite t.hl o.val (t.setFlags o.z o.n o.h o.c) (done 12)

/-- DEC r (R203). -/
def decReg (r : Reg8) (s : State) : Out :=
  let o := dec8 (s.reg r) s.flagC
  done 4 ((s.setReg r o.val).setFlags o.z o.n o.h o.c)

/-- DEC (HL) (R204): read, then write the same address. -/
def decMem (s : State) : Out :=
  withRead s.hl s fun v t =>
    let o := dec8 v t.flagC
    withWrite t.hl o.val (t.setFlags o.z o.n o.h o.c) (done 12)

/-- DAA (R205): Z from the result, N kept, H clear, C from the adjustment. -/
def decimalAdjust (s : State) : Out :=
  let r := daaOut s.a s.flagN s.flagH s.flagC
  done 4 ({ s with a := r.1 }.setFlags (r.1 == 0) s.flagN false r.2)

/-- CPL (R206): N and H set, Z and C kept. -/
def complementA (s : State) : Out := done 4 ({ s with a := ~~~s.a }.setFlags s.flagZ true true s.flagC)

/-- SCF (R207): Z kept, N and H clear, C set. -/
def setCarry (s : State) : Out := done 4 (s.setFlags s.flagZ false false true)

/-- CCF (R208): Z kept, N and H clear, C complemented. -/
def complementCarry (s : State) : Out := done 4 (s.setFlags s.flagZ false false (!s.flagC))

/-- ADD A,n (R179). -/
def execAddAN8 (n : Byte) (s : State) : Out := aluImm .add n s

/-- ADC A,n (R182). -/
def execAdcAN8 (n : Byte) (s : State) : Out := aluImm .adc n s

/-- SUB n (R185). -/
def execSubN8 (n : Byte) (s : State) : Out := aluImm .sub n s

/-- SBC A,n (R188). -/
def execSbcAN8 (n : Byte) (s : State) : Out := aluImm .sbc n s

/-- AND n (R194). -/
def execAndN8 (n : Byte) (s : State) : Out := aluImm .and n s

/-- XOR n (R200). -/
def execXorN8 (n : Byte) (s : State) : Out := aluImm .xor n s

/-- OR n (R197). -/
def execOrN8 (n : Byte) (s : State) : Out := aluImm .or n s

/-- CP n (R191). -/
def execCpN8 (n : Byte) (s : State) : Out := aluImm .cp n s

/-- INC B (R201). -/
def execIncB (s : State) : Out := incReg .b s

/-- DEC B (R203). -/
def execDecB (s : State) : Out := decReg .b s

/-- INC C (R201). -/
def execIncC (s : State) : Out := incReg .c s

/-- DEC C (R203). -/
def execDecC (s : State) : Out := decReg .c s

/-- INC D (R201). -/
def execIncD (s : State) : Out := incReg .d s

/-- DEC D (R203). -/
def execDecD (s : State) : Out := decReg .d s

/-- INC E (R201). -/
def execIncE (s : State) : Out := incReg .e s

/-- DEC E (R203). -/
def execDecE (s : State) : Out := decReg .e s

/-- INC H (R201). -/
def execIncH (s : State) : Out := incReg .h s

/-- DEC H (R203). -/
def execDecH (s : State) : Out := decReg .h s

/-- DAA (R205). -/
def execDaa (s : State) : Out := decimalAdjust s

/-- INC L (R201). -/
def execIncL (s : State) : Out := incReg .l s

/-- DEC L (R203). -/
def execDecL (s : State) : Out := decReg .l s

/-- CPL (R206). -/
def execCpl (s : State) : Out := complementA s

/-- INC (HL) (R202). -/
def execIncMemHl (s : State) : Out := incMem s

/-- DEC (HL) (R204). -/
def execDecMemHl (s : State) : Out := decMem s

/-- SCF (R207). -/
def execScf (s : State) : Out := setCarry s

/-- INC A (R201). -/
def execIncA (s : State) : Out := incReg .a s

/-- DEC A (R203). -/
def execDecA (s : State) : Out := decReg .a s

/-- CCF (R208). -/
def execCcf (s : State) : Out := complementCarry s

/-- ADD A,B (R177). -/
def execAddAB (s : State) : Out := aluReg .add .b s

/-- ADD A,C (R177). -/
def execAddAC (s : State) : Out := aluReg .add .c s

/-- ADD A,D (R177). -/
def execAddAD (s : State) : Out := aluReg .add .d s

/-- ADD A,E (R177). -/
def execAddAE (s : State) : Out := aluReg .add .e s

/-- ADD A,H (R177). -/
def execAddAH (s : State) : Out := aluReg .add .h s

/-- ADD A,L (R177). -/
def execAddAL (s : State) : Out := aluReg .add .l s

/-- ADD A,(HL) (R178). -/
def execAddAMemHl (s : State) : Out := aluMem .add s

/-- ADD A,A (R177). -/
def execAddAA (s : State) : Out := aluReg .add .a s

/-- ADC A,B (R180). -/
def execAdcAB (s : State) : Out := aluReg .adc .b s

/-- ADC A,C (R180). -/
def execAdcAC (s : State) : Out := aluReg .adc .c s

/-- ADC A,D (R180). -/
def execAdcAD (s : State) : Out := aluReg .adc .d s

/-- ADC A,E (R180). -/
def execAdcAE (s : State) : Out := aluReg .adc .e s

/-- ADC A,H (R180). -/
def execAdcAH (s : State) : Out := aluReg .adc .h s

/-- ADC A,L (R180). -/
def execAdcAL (s : State) : Out := aluReg .adc .l s

/-- ADC A,(HL) (R181). -/
def execAdcAMemHl (s : State) : Out := aluMem .adc s

/-- ADC A,A (R180). -/
def execAdcAA (s : State) : Out := aluReg .adc .a s

/-- SUB B (R183). -/
def execSubB (s : State) : Out := aluReg .sub .b s

/-- SUB C (R183). -/
def execSubC (s : State) : Out := aluReg .sub .c s

/-- SUB D (R183). -/
def execSubD (s : State) : Out := aluReg .sub .d s

/-- SUB E (R183). -/
def execSubE (s : State) : Out := aluReg .sub .e s

/-- SUB H (R183). -/
def execSubH (s : State) : Out := aluReg .sub .h s

/-- SUB L (R183). -/
def execSubL (s : State) : Out := aluReg .sub .l s

/-- SUB (HL) (R184). -/
def execSubMemHl (s : State) : Out := aluMem .sub s

/-- SUB A (R183). -/
def execSubA (s : State) : Out := aluReg .sub .a s

/-- SBC A,B (R186). -/
def execSbcAB (s : State) : Out := aluReg .sbc .b s

/-- SBC A,C (R186). -/
def execSbcAC (s : State) : Out := aluReg .sbc .c s

/-- SBC A,D (R186). -/
def execSbcAD (s : State) : Out := aluReg .sbc .d s

/-- SBC A,E (R186). -/
def execSbcAE (s : State) : Out := aluReg .sbc .e s

/-- SBC A,H (R186). -/
def execSbcAH (s : State) : Out := aluReg .sbc .h s

/-- SBC A,L (R186). -/
def execSbcAL (s : State) : Out := aluReg .sbc .l s

/-- SBC A,(HL) (R187). -/
def execSbcAMemHl (s : State) : Out := aluMem .sbc s

/-- SBC A,A (R186). -/
def execSbcAA (s : State) : Out := aluReg .sbc .a s

/-- AND B (R192). -/
def execAndB (s : State) : Out := aluReg .and .b s

/-- AND C (R192). -/
def execAndC (s : State) : Out := aluReg .and .c s

/-- AND D (R192). -/
def execAndD (s : State) : Out := aluReg .and .d s

/-- AND E (R192). -/
def execAndE (s : State) : Out := aluReg .and .e s

/-- AND H (R192). -/
def execAndH (s : State) : Out := aluReg .and .h s

/-- AND L (R192). -/
def execAndL (s : State) : Out := aluReg .and .l s

/-- AND (HL) (R193). -/
def execAndMemHl (s : State) : Out := aluMem .and s

/-- AND A (R192). -/
def execAndA (s : State) : Out := aluReg .and .a s

/-- XOR B (R198). -/
def execXorB (s : State) : Out := aluReg .xor .b s

/-- XOR C (R198). -/
def execXorC (s : State) : Out := aluReg .xor .c s

/-- XOR D (R198). -/
def execXorD (s : State) : Out := aluReg .xor .d s

/-- XOR E (R198). -/
def execXorE (s : State) : Out := aluReg .xor .e s

/-- XOR H (R198). -/
def execXorH (s : State) : Out := aluReg .xor .h s

/-- XOR L (R198). -/
def execXorL (s : State) : Out := aluReg .xor .l s

/-- XOR (HL) (R199). -/
def execXorMemHl (s : State) : Out := aluMem .xor s

/-- XOR A (R198). -/
def execXorA (s : State) : Out := aluReg .xor .a s

/-- OR B (R195). -/
def execOrB (s : State) : Out := aluReg .or .b s

/-- OR C (R195). -/
def execOrC (s : State) : Out := aluReg .or .c s

/-- OR D (R195). -/
def execOrD (s : State) : Out := aluReg .or .d s

/-- OR E (R195). -/
def execOrE (s : State) : Out := aluReg .or .e s

/-- OR H (R195). -/
def execOrH (s : State) : Out := aluReg .or .h s

/-- OR L (R195). -/
def execOrL (s : State) : Out := aluReg .or .l s

/-- OR (HL) (R196). -/
def execOrMemHl (s : State) : Out := aluMem .or s

/-- OR A (R195). -/
def execOrA (s : State) : Out := aluReg .or .a s

/-- CP B (R189). -/
def execCpB (s : State) : Out := aluReg .cp .b s

/-- CP C (R189). -/
def execCpC (s : State) : Out := aluReg .cp .c s

/-- CP D (R189). -/
def execCpD (s : State) : Out := aluReg .cp .d s

/-- CP E (R189). -/
def execCpE (s : State) : Out := aluReg .cp .e s

/-- CP H (R189). -/
def execCpH (s : State) : Out := aluReg .cp .h s

/-- CP L (R189). -/
def execCpL (s : State) : Out := aluReg .cp .l s

/-- CP (HL) (R190). -/
def execCpMemHl (s : State) : Out := aluMem .cp s

/-- CP A (R189). -/
def execCpA (s : State) : Out := aluReg .cp .a s

end Sys2Proof.Machine
end

