-- ==== Sys2Proof/Machine/Control.lean ====
section
/-! DEFINITION. Control transfer (spec/46_control.md): the shared meaning of each form, then one definition per instruction. PC is
already past all of the instruction's bytes. -/

namespace Sys2Proof.Machine

/-- JP nn (R361). -/
def jumpAbs (nn : Word) (s : State) : Out := done 16 { s with pc := nn }

/-- JP cc,nn (R362). -/
def jumpAbsIf (cc : Cond) (nn : Word) (s : State) : Out := if condHolds cc s then jumpAbs nn s else done 12 s

/-- JP HL (R363): the target is HL itself. -/
def jumpHl (s : State) : Out := done 4 { s with pc := s.hl }

/-- JR e (R364). -/
def jumpRel (e : Byte) (s : State) : Out := done 12 { s with pc := s.pc + sext8 e }

/-- JR cc,e (R365). -/
def jumpRelIf (cc : Cond) (e : Byte) (s : State) : Out := if condHolds cc s then jumpRel e s else done 8 s

/-- CALL nn (R366): the address after the instruction is pushed. -/
def callAbs (nn : Word) (s : State) : Out := withPush s.pc s fun t => done 24 { t with pc := nn }

/-- CALL cc,nn (R367). -/
def callAbsIf (cc : Cond) (nn : Word) (s : State) : Out := if condHolds cc s then callAbs nn s else done 12 s

/-- RET (R368). -/
def returnPop (s : State) : Out := withPop s fun v t => done 16 { t with pc := v }

/-- RET cc (R369): a taken return costs 20. -/
def returnPopIf (cc : Cond) (s : State) : Out :=
  if condHolds cc s then withPop s fun v t => done 20 { t with pc := v } else done 8 s

/-- RST t (R371): a call of the address 8 t (R108). -/
def restart (t : Fin 8) (s : State) : Out :=
  withPush s.pc s fun u => done 16 { u with pc := BitVec.ofNat 16 (8 * t.val) }

/-- JR e (R364). -/
def execJrE8 (e : Byte) (s : State) : Out := jumpRel e s

/-- JR NZ,e (R365). -/
def execJrNzE8 (e : Byte) (s : State) : Out := jumpRelIf .nz e s

/-- JR Z,e (R365). -/
def execJrZE8 (e : Byte) (s : State) : Out := jumpRelIf .z e s

/-- JR NC,e (R365). -/
def execJrNcE8 (e : Byte) (s : State) : Out := jumpRelIf .nc e s

/-- JR C,e (R365). -/
def execJrCE8 (e : Byte) (s : State) : Out := jumpRelIf .c e s

/-- JP NZ,nn (R362). -/
def execJpNzN16 (nn : Word) (s : State) : Out := jumpAbsIf .nz nn s

/-- JP nn (R361). -/
def execJpN16 (nn : Word) (s : State) : Out := jumpAbs nn s

/-- CALL NZ,nn (R367). -/
def execCallNzN16 (nn : Word) (s : State) : Out := callAbsIf .nz nn s

/-- JP Z,nn (R362). -/
def execJpZN16 (nn : Word) (s : State) : Out := jumpAbsIf .z nn s

/-- CALL Z,nn (R367). -/
def execCallZN16 (nn : Word) (s : State) : Out := callAbsIf .z nn s

/-- CALL nn (R366). -/
def execCallN16 (nn : Word) (s : State) : Out := callAbs nn s

/-- JP NC,nn (R362). -/
def execJpNcN16 (nn : Word) (s : State) : Out := jumpAbsIf .nc nn s

/-- CALL NC,nn (R367). -/
def execCallNcN16 (nn : Word) (s : State) : Out := callAbsIf .nc nn s

/-- JP C,nn (R362). -/
def execJpCN16 (nn : Word) (s : State) : Out := jumpAbsIf .c nn s

/-- CALL C,nn (R367). -/
def execCallCN16 (nn : Word) (s : State) : Out := callAbsIf .c nn s

/-- RET NZ (R369). -/
def execRetNz (s : State) : Out := returnPopIf .nz s

/-- RST 0x00 (R371). -/
def execRst00 (s : State) : Out := restart 0 s

/-- RET Z (R369). -/
def execRetZ (s : State) : Out := returnPopIf .z s

/-- RET (R368). -/
def execRet (s : State) : Out := returnPop s

/-- RST 0x08 (R371). -/
def execRst08 (s : State) : Out := restart 1 s

/-- RET NC (R369). -/
def execRetNc (s : State) : Out := returnPopIf .nc s

/-- RST 0x10 (R371). -/
def execRst10 (s : State) : Out := restart 2 s

/-- RET C (R369). -/
def execRetC (s : State) : Out := returnPopIf .c s

/-- RETI (R370). -/
def execReti (s : State) : Out := returnFromInterrupt s

/-- RST 0x18 (R371). -/
def execRst18 (s : State) : Out := restart 3 s

/-- RST 0x20 (R371). -/
def execRst20 (s : State) : Out := restart 4 s

/-- JP HL (R363). -/
def execJpHl (s : State) : Out := jumpHl s

/-- RST 0x28 (R371). -/
def execRst28 (s : State) : Out := restart 5 s

/-- RST 0x30 (R371). -/
def execRst30 (s : State) : Out := restart 6 s

/-- RST 0x38 (R371). -/
def execRst38 (s : State) : Out := restart 7 s

end Sys2Proof.Machine
end

