-- ==== Sys2Proof/Machine/Rotate.lean ====
section
/-! DEFINITION. Rotates and shifts (spec/43_rotate_shift_bit.md, sections 2 and 3): the shared meaning of each form, then one
definition per instruction. -/

namespace Sys2Proof.Machine

/-- RLCA, RRCA, RLA, RRA (R258 to R261): Z, N and H are cleared. -/
def rotateA (op : ShiftOp) (s : State) : Out :=
  let r := shiftOut op s.a s.flagC
  done 4 ({ s with a := r.1 }.setFlags false false false r.2)

/-- An extended-table rotate or shift of a register (R262 to R276, the even rules). -/
def shiftReg (op : ShiftOp) (r : Reg8) (s : State) : Out :=
  let o := shiftOut op (s.reg r) s.flagC
  done 8 ((s.setReg r o.1).shiftFlags o)

/-- An extended-table rotate or shift of the byte at HL (R263 to R277, the odd rules): read, then write the same address. -/
def shiftMem (op : ShiftOp) (s : State) : Out :=
  withRead s.hl s fun v t =>
    let o := shiftOut op v t.flagC
    withWrite t.hl o.1 (t.shiftFlags o) (done 16)

/-- RLCA (R258). -/
def execRlca (s : State) : Out := rotateA .rlc s

/-- RRCA (R259). -/
def execRrca (s : State) : Out := rotateA .rrc s

/-- RLA (R260). -/
def execRla (s : State) : Out := rotateA .rl s

/-- RRA (R261). -/
def execRra (s : State) : Out := rotateA .rr s

/-- RLC B (R262). -/
def execRlcB (s : State) : Out := shiftReg .rlc .b s

/-- RLC C (R262). -/
def execRlcC (s : State) : Out := shiftReg .rlc .c s

/-- RLC D (R262). -/
def execRlcD (s : State) : Out := shiftReg .rlc .d s

/-- RLC E (R262). -/
def execRlcE (s : State) : Out := shiftReg .rlc .e s

/-- RLC H (R262). -/
def execRlcH (s : State) : Out := shiftReg .rlc .h s

/-- RLC L (R262). -/
def execRlcL (s : State) : Out := shiftReg .rlc .l s

/-- RLC (HL) (R263). -/
def execRlcMemHl (s : State) : Out := shiftMem .rlc s

/-- RLC A (R262). -/
def execRlcA (s : State) : Out := shiftReg .rlc .a s

/-- RRC B (R264). -/
def execRrcB (s : State) : Out := shiftReg .rrc .b s

/-- RRC C (R264). -/
def execRrcC (s : State) : Out := shiftReg .rrc .c s

/-- RRC D (R264). -/
def execRrcD (s : State) : Out := shiftReg .rrc .d s

/-- RRC E (R264). -/
def execRrcE (s : State) : Out := shiftReg .rrc .e s

/-- RRC H (R264). -/
def execRrcH (s : State) : Out := shiftReg .rrc .h s

/-- RRC L (R264). -/
def execRrcL (s : State) : Out := shiftReg .rrc .l s

/-- RRC (HL) (R265). -/
def execRrcMemHl (s : State) : Out := shiftMem .rrc s

/-- RRC A (R264). -/
def execRrcA (s : State) : Out := shiftReg .rrc .a s

/-- RL B (R266). -/
def execRlB (s : State) : Out := shiftReg .rl .b s

/-- RL C (R266). -/
def execRlC (s : State) : Out := shiftReg .rl .c s

/-- RL D (R266). -/
def execRlD (s : State) : Out := shiftReg .rl .d s

/-- RL E (R266). -/
def execRlE (s : State) : Out := shiftReg .rl .e s

/-- RL H (R266). -/
def execRlH (s : State) : Out := shiftReg .rl .h s

/-- RL L (R266). -/
def execRlL (s : State) : Out := shiftReg .rl .l s

/-- RL (HL) (R267). -/
def execRlMemHl (s : State) : Out := shiftMem .rl s

/-- RL A (R266). -/
def execRlA (s : State) : Out := shiftReg .rl .a s

/-- RR B (R268). -/
def execRrB (s : State) : Out := shiftReg .rr .b s

/-- RR C (R268). -/
def execRrC (s : State) : Out := shiftReg .rr .c s

/-- RR D (R268). -/
def execRrD (s : State) : Out := shiftReg .rr .d s

/-- RR E (R268). -/
def execRrE (s : State) : Out := shiftReg .rr .e s

/-- RR H (R268). -/
def execRrH (s : State) : Out := shiftReg .rr .h s

/-- RR L (R268). -/
def execRrL (s : State) : Out := shiftReg .rr .l s

/-- RR (HL) (R269). -/
def execRrMemHl (s : State) : Out := shiftMem .rr s

/-- RR A (R268). -/
def execRrA (s : State) : Out := shiftReg .rr .a s

/-- SLA B (R270). -/
def execSlaB (s : State) : Out := shiftReg .sla .b s

/-- SLA C (R270). -/
def execSlaC (s : State) : Out := shiftReg .sla .c s

/-- SLA D (R270). -/
def execSlaD (s : State) : Out := shiftReg .sla .d s

/-- SLA E (R270). -/
def execSlaE (s : State) : Out := shiftReg .sla .e s

/-- SLA H (R270). -/
def execSlaH (s : State) : Out := shiftReg .sla .h s

/-- SLA L (R270). -/
def execSlaL (s : State) : Out := shiftReg .sla .l s

/-- SLA (HL) (R271). -/
def execSlaMemHl (s : State) : Out := shiftMem .sla s

/-- SLA A (R270). -/
def execSlaA (s : State) : Out := shiftReg .sla .a s

/-- SRA B (R272). -/
def execSraB (s : State) : Out := shiftReg .sra .b s

/-- SRA C (R272). -/
def execSraC (s : State) : Out := shiftReg .sra .c s

/-- SRA D (R272). -/
def execSraD (s : State) : Out := shiftReg .sra .d s

/-- SRA E (R272). -/
def execSraE (s : State) : Out := shiftReg .sra .e s

/-- SRA H (R272). -/
def execSraH (s : State) : Out := shiftReg .sra .h s

/-- SRA L (R272). -/
def execSraL (s : State) : Out := shiftReg .sra .l s

/-- SRA (HL) (R273). -/
def execSraMemHl (s : State) : Out := shiftMem .sra s

/-- SRA A (R272). -/
def execSraA (s : State) : Out := shiftReg .sra .a s

/-- SWAP B (R274). -/
def execSwapB (s : State) : Out := shiftReg .swap .b s

/-- SWAP C (R274). -/
def execSwapC (s : State) : Out := shiftReg .swap .c s

/-- SWAP D (R274). -/
def execSwapD (s : State) : Out := shiftReg .swap .d s

/-- SWAP E (R274). -/
def execSwapE (s : State) : Out := shiftReg .swap .e s

/-- SWAP H (R274). -/
def execSwapH (s : State) : Out := shiftReg .swap .h s

/-- SWAP L (R274). -/
def execSwapL (s : State) : Out := shiftReg .swap .l s

/-- SWAP (HL) (R275). -/
def execSwapMemHl (s : State) : Out := shiftMem .swap s

/-- SWAP A (R274). -/
def execSwapA (s : State) : Out := shiftReg .swap .a s

/-- SRL B (R276). -/
def execSrlB (s : State) : Out := shiftReg .srl .b s

/-- SRL C (R276). -/
def execSrlC (s : State) : Out := shiftReg .srl .c s

/-- SRL D (R276). -/
def execSrlD (s : State) : Out := shiftReg .srl .d s

/-- SRL E (R276). -/
def execSrlE (s : State) : Out := shiftReg .srl .e s

/-- SRL H (R276). -/
def execSrlH (s : State) : Out := shiftReg .srl .h s

/-- SRL L (R276). -/
def execSrlL (s : State) : Out := shiftReg .srl .l s

/-- SRL (HL) (R277). -/
def execSrlMemHl (s : State) : Out := shiftMem .srl s

/-- SRL A (R276). -/
def execSrlA (s : State) : Out := shiftReg .srl .a s

end Sys2Proof.Machine
end

