-- ==== Sys2Proof/Machine/Extended.lean ====
section
/-! DEFINITION. The prefix 0xCB (spec/40_dispatcher.md R149): the base table's own entry, which runs the extended instruction its
second byte names, by the fields of that byte (spec/30_encoding.md R101, R103, R109, R111). -/

namespace Sys2Proof.Machine

/-- The r8 field (R103): a register, or none for the byte at HL. -/
def regOfField (z : Fin 8) : Option Reg8 :=
  match z with
  | 0 => some .b
  | 1 => some .c
  | 2 => some .d
  | 3 => some .e
  | 4 => some .h
  | 5 => some .l
  | 6 => none
  | 7 => some .a

/-- The operation of an extended byte with x = 0, by its y field (R111). -/
def shiftOfField (y : Fin 8) : ShiftOp :=
  match y with
  | 0 => .rlc
  | 1 => .rrc
  | 2 => .rl
  | 3 => .rr
  | 4 => .sla
  | 5 => .sra
  | 6 => .swap
  | 7 => .srl

/-- CB[p] (R111, R149), by the fields x, y and z of p. -/
def extendedOp (p : Byte) (s : State) : Out :=
  match fieldX p, regOfField (fieldZ p) with
  | 0, some r => shiftReg (shiftOfField (fieldY p)) r s
  | 0, none => shiftMem (shiftOfField (fieldY p)) s
  | 1, some r => testBitReg (fieldY p) r s
  | 1, none => testBitMem (fieldY p) s
  | 2, some r => clearBitReg (fieldY p) r s
  | 2, none => clearBitMem (fieldY p) s
  | _, some r => raiseBitReg (fieldY p) r s
  | _, none => raiseBitMem (fieldY p) s

/-- PREFIX CB (R149). -/
def execPrefixCb (p : Byte) (s : State) : Out := extendedOp p s

end Sys2Proof.Machine
end

