-- ==== Sys2Proof/Machine/Load16.lean ====
section
/-! DEFINITION. 16-bit loads and the stack (spec/45_loads16_stack.md): the shared meaning of each form, then one definition per
instruction. -/

namespace Sys2Proof.Machine

/-- LD rr,nn (R331). -/
def loadPairImm (p : Pair) (nn : Word) (s : State) : Out := done 12 (s.setPair p nn)

/-- LD (nn),SP (R332): SP's low byte at nn, then its high byte at nn + 1. -/
def storeSp (nn : Word) (s : State) : Out := withWrite16 nn s.sp s (done 20)

/-- LD SP,HL (R333). -/
def loadSpHl (s : State) : Out := done 8 { s with sp := s.hl }

/-- LD HL,SP+e (R334): SP is unchanged. -/
def loadHlSpDisp (e : Byte) (s : State) : Out :=
  let r := addSp s.sp e
  done 12 ((s.setHl r.1).setFlags false false r.2.1 r.2.2)

/-- PUSH rr and PUSH AF (R335, R336). -/
def pushPair (p : StackPair) (s : State) : Out := withPush (s.stackPair p) s (done 16)

/-- POP rr and POP AF (R337, R338). -/
def popPair (p : StackPair) (s : State) : Out := withPop s fun v t => done 12 (t.setStackPair p v)

/-- LD BC,nn (R331). -/
def execLdBcN16 (nn : Word) (s : State) : Out := loadPairImm .bc nn s

/-- LD (nn),SP (R332). -/
def execLdMemN16Sp (nn : Word) (s : State) : Out := storeSp nn s

/-- LD DE,nn (R331). -/
def execLdDeN16 (nn : Word) (s : State) : Out := loadPairImm .de nn s

/-- LD HL,nn (R331). -/
def execLdHlN16 (nn : Word) (s : State) : Out := loadPairImm .hl nn s

/-- LD SP,nn (R331). -/
def execLdSpN16 (nn : Word) (s : State) : Out := loadPairImm .sp nn s

/-- LD HL,SP+e (R334). -/
def execLdHlSpE8 (e : Byte) (s : State) : Out := loadHlSpDisp e s

/-- POP BC (R337). -/
def execPopBc (s : State) : Out := popPair .bc s

/-- PUSH BC (R335). -/
def execPushBc (s : State) : Out := pushPair .bc s

/-- POP DE (R337). -/
def execPopDe (s : State) : Out := popPair .de s

/-- PUSH DE (R335). -/
def execPushDe (s : State) : Out := pushPair .de s

/-- POP HL (R337). -/
def execPopHl (s : State) : Out := popPair .hl s

/-- PUSH HL (R335). -/
def execPushHl (s : State) : Out := pushPair .hl s

/-- POP AF (R338). -/
def execPopAf (s : State) : Out := popPair .af s

/-- PUSH AF (R336). -/
def execPushAf (s : State) : Out := pushPair .af s

/-- LD SP,HL (R333). -/
def execLdSpHl (s : State) : Out := loadSpHl s

end Sys2Proof.Machine
end

