-- ==== Sys2Proof/Machine/Load8.lean ====
section
/-! DEFINITION. 8-bit loads and stores (spec/44_loads8.md): the shared meaning of each form, then one definition per instruction.
No flag changes in any of them. -/

namespace Sys2Proof.Machine

/-- LD r,r' (R290). -/
def loadReg (dst src : Reg8) (s : State) : Out := done 4 (s.setReg dst (s.reg src))

/-- LD r,n (R291). -/
def loadImm (dst : Reg8) (n : Byte) (s : State) : Out := done 8 (s.setReg dst n)

/-- LD r,(HL) (R292): the old HL is the address. -/
def loadMem (dst : Reg8) (s : State) : Out := withRead s.hl s fun v t => done 8 (t.setReg dst v)

/-- LD (HL),r (R293). -/
def storeMem (r : Reg8) (s : State) : Out := withWrite s.hl (s.reg r) s (done 8)

/-- LD (HL),n (R294). -/
def storeImm (n : Byte) (s : State) : Out := withWrite s.hl n s (done 12)

/-- LD A,(BC) and LD A,(DE) (R295, R296). -/
def loadPair (p : Pair) (s : State) : Out := withRead (s.pair p) s fun v t => done 8 { t with a := v }

/-- LD (BC),A and LD (DE),A (R297, R298). -/
def storePair (p : Pair) (s : State) : Out := withWrite (s.pair p) s.a s (done 8)

/-- LD A,(nn) (R299). -/
def loadAbs (nn : Word) (s : State) : Out := withRead nn s fun v t => done 16 { t with a := v }

/-- LD (nn),A (R300). -/
def storeAbs (nn : Word) (s : State) : Out := withWrite nn s.a s (done 16)

/-- LDH A,(n) (R301). -/
def loadHighImm (n : Byte) (s : State) : Out := withRead (highPage n) s fun v t => done 12 { t with a := v }

/-- LDH (n),A (R302). -/
def storeHighImm (n : Byte) (s : State) : Out := withWrite (highPage n) s.a s (done 12)

/-- LD A,(C) (R303). -/
def loadHighC (s : State) : Out := withRead (highPage s.c) s fun v t => done 8 { t with a := v }

/-- LD (C),A (R304). -/
def storeHighC (s : State) : Out := withWrite (highPage s.c) s.a s (done 8)

/-- LD (HL+),A (R305): HL moves after the access. -/
def storeMemInc (s : State) : Out := withWrite s.hl s.a s fun t => done 8 (t.setHl (t.hl + 1))

/-- LD (HL-),A (R306): HL moves after the access. -/
def storeMemDec (s : State) : Out := withWrite s.hl s.a s fun t => done 8 (t.setHl (t.hl - 1))

/-- LD A,(HL+) (R307): HL moves after the access. -/
def loadMemInc (s : State) : Out := withRead s.hl s fun v t => done 8 ({ t with a := v }.setHl (t.hl + 1))

/-- LD A,(HL-) (R308): HL moves after the access. -/
def loadMemDec (s : State) : Out := withRead s.hl s fun v t => done 8 ({ t with a := v }.setHl (t.hl - 1))

/-- LD B,n (R291). -/
def execLdBN8 (n : Byte) (s : State) : Out := loadImm .b n s

/-- LD C,n (R291). -/
def execLdCN8 (n : Byte) (s : State) : Out := loadImm .c n s

/-- LD D,n (R291). -/
def execLdDN8 (n : Byte) (s : State) : Out := loadImm .d n s

/-- LD E,n (R291). -/
def execLdEN8 (n : Byte) (s : State) : Out := loadImm .e n s

/-- LD H,n (R291). -/
def execLdHN8 (n : Byte) (s : State) : Out := loadImm .h n s

/-- LD L,n (R291). -/
def execLdLN8 (n : Byte) (s : State) : Out := loadImm .l n s

/-- LD (HL),n (R294). -/
def execLdMemHlN8 (n : Byte) (s : State) : Out := storeImm n s

/-- LD A,n (R291). -/
def execLdAN8 (n : Byte) (s : State) : Out := loadImm .a n s

/-- LDH (n),A (R302). -/
def execLdhMemN8A (n : Byte) (s : State) : Out := storeHighImm n s

/-- LD (nn),A (R300). -/
def execLdMemN16A (nn : Word) (s : State) : Out := storeAbs nn s

/-- LDH A,(n) (R301). -/
def execLdhAMemN8 (n : Byte) (s : State) : Out := loadHighImm n s

/-- LD A,(nn) (R299). -/
def execLdAMemN16 (nn : Word) (s : State) : Out := loadAbs nn s

/-- LD (BC),A (R297). -/
def execLdMemBcA (s : State) : Out := storePair .bc s

/-- LD A,(BC) (R295). -/
def execLdAMemBc (s : State) : Out := loadPair .bc s

/-- LD (DE),A (R298). -/
def execLdMemDeA (s : State) : Out := storePair .de s

/-- LD A,(DE) (R296). -/
def execLdAMemDe (s : State) : Out := loadPair .de s

/-- LD (HL+),A (R305). -/
def execLdMemHlIncA (s : State) : Out := storeMemInc s

/-- LD A,(HL+) (R307). -/
def execLdAMemHlInc (s : State) : Out := loadMemInc s

/-- LD (HL-),A (R306). -/
def execLdMemHlDecA (s : State) : Out := storeMemDec s

/-- LD A,(HL-) (R308). -/
def execLdAMemHlDec (s : State) : Out := loadMemDec s

/-- LD B,B (R290). -/
def execLdBB (s : State) : Out := loadReg .b .b s

/-- LD B,C (R290). -/
def execLdBC (s : State) : Out := loadReg .b .c s

/-- LD B,D (R290). -/
def execLdBD (s : State) : Out := loadReg .b .d s

/-- LD B,E (R290). -/
def execLdBE (s : State) : Out := loadReg .b .e s

/-- LD B,H (R290). -/
def execLdBH (s : State) : Out := loadReg .b .h s

/-- LD B,L (R290). -/
def execLdBL (s : State) : Out := loadReg .b .l s

/-- LD B,(HL) (R292). -/
def execLdBMemHl (s : State) : Out := loadMem .b s

/-- LD B,A (R290). -/
def execLdBA (s : State) : Out := loadReg .b .a s

/-- LD C,B (R290). -/
def execLdCB (s : State) : Out := loadReg .c .b s

/-- LD C,C (R290). -/
def execLdCC (s : State) : Out := loadReg .c .c s

/-- LD C,D (R290). -/
def execLdCD (s : State) : Out := loadReg .c .d s

/-- LD C,E (R290). -/
def execLdCE (s : State) : Out := loadReg .c .e s

/-- LD C,H (R290). -/
def execLdCH (s : State) : Out := loadReg .c .h s

/-- LD C,L (R290). -/
def execLdCL (s : State) : Out := loadReg .c .l s

/-- LD C,(HL) (R292). -/
def execLdCMemHl (s : State) : Out := loadMem .c s

/-- LD C,A (R290). -/
def execLdCA (s : State) : Out := loadReg .c .a s

/-- LD D,B (R290). -/
def execLdDB (s : State) : Out := loadReg .d .b s

/-- LD D,C (R290). -/
def execLdDC (s : State) : Out := loadReg .d .c s

/-- LD D,D (R290). -/
def execLdDD (s : State) : Out := loadReg .d .d s

/-- LD D,E (R290). -/
def execLdDE (s : State) : Out := loadReg .d .e s

/-- LD D,H (R290). -/
def execLdDH (s : State) : Out := loadReg .d .h s

/-- LD D,L (R290). -/
def execLdDL (s : State) : Out := loadReg .d .l s

/-- LD D,(HL) (R292). -/
def execLdDMemHl (s : State) : Out := loadMem .d s

/-- LD D,A (R290). -/
def execLdDA (s : State) : Out := loadReg .d .a s

/-- LD E,B (R290). -/
def execLdEB (s : State) : Out := loadReg .e .b s

/-- LD E,C (R290). -/
def execLdEC (s : State) : Out := loadReg .e .c s

/-- LD E,D (R290). -/
def execLdED (s : State) : Out := loadReg .e .d s

/-- LD E,E (R290). -/
def execLdEE (s : State) : Out := loadReg .e .e s

/-- LD E,H (R290). -/
def execLdEH (s : State) : Out := loadReg .e .h s

/-- LD E,L (R290). -/
def execLdEL (s : State) : Out := loadReg .e .l s

/-- LD E,(HL) (R292). -/
def execLdEMemHl (s : State) : Out := loadMem .e s

/-- LD E,A (R290). -/
def execLdEA (s : State) : Out := loadReg .e .a s

/-- LD H,B (R290). -/
def execLdHB (s : State) : Out := loadReg .h .b s

/-- LD H,C (R290). -/
def execLdHC (s : State) : Out := loadReg .h .c s

/-- LD H,D (R290). -/
def execLdHD (s : State) : Out := loadReg .h .d s

/-- LD H,E (R290). -/
def execLdHE (s : State) : Out := loadReg .h .e s

/-- LD H,H (R290). -/
def execLdHH (s : State) : Out := loadReg .h .h s

/-- LD H,L (R290). -/
def execLdHL (s : State) : Out := loadReg .h .l s

/-- LD H,(HL) (R292). -/
def execLdHMemHl (s : State) : Out := loadMem .h s

/-- LD H,A (R290). -/
def execLdHA (s : State) : Out := loadReg .h .a s

/-- LD L,B (R290). -/
def execLdLB (s : State) : Out := loadReg .l .b s

/-- LD L,C (R290). -/
def execLdLC (s : State) : Out := loadReg .l .c s

/-- LD L,D (R290). -/
def execLdLD (s : State) : Out := loadReg .l .d s

/-- LD L,E (R290). -/
def execLdLE (s : State) : Out := loadReg .l .e s

/-- LD L,H (R290). -/
def execLdLH (s : State) : Out := loadReg .l .h s

/-- LD L,L (R290). -/
def execLdLL (s : State) : Out := loadReg .l .l s

/-- LD L,(HL) (R292). -/
def execLdLMemHl (s : State) : Out := loadMem .l s

/-- LD L,A (R290). -/
def execLdLA (s : State) : Out := loadReg .l .a s

/-- LD (HL),B (R293). -/
def execLdMemHlB (s : State) : Out := storeMem .b s

/-- LD (HL),C (R293). -/
def execLdMemHlC (s : State) : Out := storeMem .c s

/-- LD (HL),D (R293). -/
def execLdMemHlD (s : State) : Out := storeMem .d s

/-- LD (HL),E (R293). -/
def execLdMemHlE (s : State) : Out := storeMem .e s

/-- LD (HL),H (R293). -/
def execLdMemHlH (s : State) : Out := storeMem .h s

/-- LD (HL),L (R293). -/
def execLdMemHlL (s : State) : Out := storeMem .l s

/-- LD (HL),A (R293). -/
def execLdMemHlA (s : State) : Out := storeMem .a s

/-- LD A,B (R290). -/
def execLdAB (s : State) : Out := loadReg .a .b s

/-- LD A,C (R290). -/
def execLdAC (s : State) : Out := loadReg .a .c s

/-- LD A,D (R290). -/
def execLdAD (s : State) : Out := loadReg .a .d s

/-- LD A,E (R290). -/
def execLdAE (s : State) : Out := loadReg .a .e s

/-- LD A,H (R290). -/
def execLdAH (s : State) : Out := loadReg .a .h s

/-- LD A,L (R290). -/
def execLdAL (s : State) : Out := loadReg .a .l s

/-- LD A,(HL) (R292). -/
def execLdAMemHl (s : State) : Out := loadMem .a s

/-- LD A,A (R290). -/
def execLdAA (s : State) : Out := loadReg .a .a s

/-- LD (C),A (R304). -/
def execLdMemCA (s : State) : Out := storeHighC s

/-- LD A,(C) (R303). -/
def execLdAMemC (s : State) : Out := loadHighC s

end Sys2Proof.Machine
end

