-- ==== Sys2Proof/Machine/System.lean ====
section
/-! DEFINITION. The system instructions (spec/47_system.md) and the opcode bytes with no table entry (spec/40_dispatcher.md R150). -/

namespace Sys2Proof.Machine

/-- HALT (R391). -/
def halt (s : State) : Out := done 4 { s with halted := true }

/-- STOP (R392): its second byte is fetched and ignored (R117). -/
def stop (_ : Byte) (s : State) : Out := done 4 { s with stopped := true }

/-- DI (R393): it also cancels a pending enable. -/
def disableInterrupts (s : State) : Out := done 4 { s with ime := false, eiPending := false }

/-- EI (R394): delayed, it sets the latch unless IME is already set. -/
def enableInterrupts (s : State) : Out :=
  if s.params.eiDelayed then
    if s.ime then done 4 s else done 4 { s with eiPending := true }
  else done 4 { s with ime := true }

/-- STOP (R392). -/
def execStop (x : Byte) (s : State) : Out := stop x s

/-- ILLEGAL (R150). -/
def execIllegal (o : Byte) (s : State) : Out := raiseUnimplemented o s

/-- NOP (R390). -/
def execNop (s : State) : Out := done 4 s

/-- HALT (R391). -/
def execHalt (s : State) : Out := halt s

/-- DI (R393). -/
def execDi (s : State) : Out := disableInterrupts s

/-- EI (R394). -/
def execEi (s : State) : Out := enableInterrupts s

end Sys2Proof.Machine
end

