-- ==== Sys2Proof/Syntax.lean ====
section
/-! DEFINITION. The instructions: one constructor for each mnemonic of spec/opcode_table.json, those with operands first and then
the rest, each in the table's order. An immediate or displacement byte, or a 16-bit immediate, is the constructor's argument
(spec/30_encoding.md R102, R106). -/

namespace Sys2Proof

/-- The instructions (R110, R111). `illegal` stands for the eleven opcode bytes with no table entry, each as its byte (R112);
`prefixCb p` for the row PREFIX CB, whose second byte is p (R149). -/
inductive Instr where
  /-- LD BC,nn (0x01), R331. -/
  | ldBcN16 (nn : Word)
  /-- LD B,n (0x06), R291. -/
  | ldBN8 (n : Byte)
  /-- LD (nn),SP (0x08), R332. -/
  | ldMemN16Sp (nn : Word)
  /-- LD C,n (0x0E), R291. -/
  | ldCN8 (n : Byte)
  /-- STOP (0x10), R392. -/
  | stop (x : Byte)
  /-- LD DE,nn (0x11), R331. -/
  | ldDeN16 (nn : Word)
  /-- LD D,n (0x16), R291. -/
  | ldDN8 (n : Byte)
  /-- JR e (0x18), R364. -/
  | jrE8 (e : Byte)
  /-- LD E,n (0x1E), R291. -/
  | ldEN8 (n : Byte)
  /-- JR NZ,e (0x20), R365. -/
  | jrNzE8 (e : Byte)
  /-- LD HL,nn (0x21), R331. -/
  | ldHlN16 (nn : Word)
  /-- LD H,n (0x26), R291. -/
  | ldHN8 (n : Byte)
  /-- JR Z,e (0x28), R365. -/
  | jrZE8 (e : Byte)
  /-- LD L,n (0x2E), R291. -/
  | ldLN8 (n : Byte)
  /-- JR NC,e (0x30), R365. -/
  | jrNcE8 (e : Byte)
  /-- LD SP,nn (0x31), R331. -/
  | ldSpN16 (nn : Word)
  /-- LD (HL),n (0x36), R294. -/
  | ldMemHlN8 (n : Byte)
  /-- JR C,e (0x38), R365. -/
  | jrCE8 (e : Byte)
  /-- LD A,n (0x3E), R291. -/
  | ldAN8 (n : Byte)
  /-- JP NZ,nn (0xC2), R362. -/
  | jpNzN16 (nn : Word)
  /-- JP nn (0xC3), R361. -/
  | jpN16 (nn : Word)
  /-- CALL NZ,nn (0xC4), R367. -/
  | callNzN16 (nn : Word)
  /-- ADD A,n (0xC6), R179. -/
  | addAN8 (n : Byte)
  /-- JP Z,nn (0xCA), R362. -/
  | jpZN16 (nn : Word)
  /-- PREFIX CB (0xCB), R149. -/
  | prefixCb (p : Byte)
  /-- CALL Z,nn (0xCC), R367. -/
  | callZN16 (nn : Word)
  /-- CALL nn (0xCD), R366. -/
  | callN16 (nn : Word)
  /-- ADC A,n (0xCE), R182. -/
  | adcAN8 (n : Byte)
  /-- JP NC,nn (0xD2), R362. -/
  | jpNcN16 (nn : Word)
  /-- ILLEGAL (the eleven bytes of R112), R150. -/
  | illegal (o : Byte)
  /-- CALL NC,nn (0xD4), R367. -/
  | callNcN16 (nn : Word)
  /-- SUB n (0xD6), R185. -/
  | subN8 (n : Byte)
  /-- JP C,nn (0xDA), R362. -/
  | jpCN16 (nn : Word)
  /-- CALL C,nn (0xDC), R367. -/
  | callCN16 (nn : Word)
  /-- SBC A,n (0xDE), R188. -/
  | sbcAN8 (n : Byte)
  /-- LDH (n),A (0xE0), R302. -/
  | ldhMemN8A (n : Byte)
  /-- AND n (0xE6), R194. -/
  | andN8 (n : Byte)
  /-- ADD SP,e (0xE8), R235. -/
  | addSpE8 (e : Byte)
  /-- LD (nn),A (0xEA), R300. -/
  | ldMemN16A (nn : Word)
  /-- XOR n (0xEE), R200. -/
  | xorN8 (n : Byte)
  /-- LDH A,(n) (0xF0), R301. -/
  | ldhAMemN8 (n : Byte)
  /-- OR n (0xF6), R197. -/
  | orN8 (n : Byte)
  /-- LD HL,SP+e (0xF8), R334. -/
  | ldHlSpE8 (e : Byte)
  /-- LD A,(nn) (0xFA), R299. -/
  | ldAMemN16 (nn : Word)
  /-- CP n (0xFE), R191. -/
  | cpN8 (n : Byte)
  /-- NOP (0x00), R390. -/
  | nop
  /-- LD (BC),A (0x02), R297. -/
  | ldMemBcA
  /-- INC BC (0x03), R232. -/
  | incBc
  /-- INC B (0x04), R201. -/
  | incB
  /-- DEC B (0x05), R203. -/
  | decB
  /-- RLCA (0x07), R258. -/
  | rlca
  /-- ADD HL,BC (0x09), R234. -/
  | addHlBc
  /-- LD A,(BC) (0x0A), R295. -/
  | ldAMemBc
  /-- DEC BC (0x0B), R233. -/
  | decBc
  /-- INC C (0x0C), R201. -/
  | incC
  /-- DEC C (0x0D), R203. -/
  | decC
  /-- RRCA (0x0F), R259. -/
  | rrca
  /-- LD (DE),A (0x12), R298. -/
  | ldMemDeA
  /-- INC DE (0x13), R232. -/
  | incDe
  /-- INC D (0x14), R201. -/
  | incD
  /-- DEC D (0x15), R203. -/
  | decD
  /-- RLA (0x17), R260. -/
  | rla
  /-- ADD HL,DE (0x19), R234. -/
  | addHlDe
  /-- LD A,(DE) (0x1A), R296. -/
  | ldAMemDe
  /-- DEC DE (0x1B), R233. -/
  | decDe
  /-- INC E (0x1C), R201. -/
  | incE
  /-- DEC E (0x1D), R203. -/
  | decE
  /-- RRA (0x1F), R261. -/
  | rra
  /-- LD (HL+),A (0x22), R305. -/
  | ldMemHlIncA
  /-- INC HL (0x23), R232. -/
  | incHl
  /-- INC H (0x24), R201. -/
  | incH
  /-- DEC H (0x25), R203. -/
  | decH
  /-- DAA (0x27), R205. -/
  | daa
  /-- ADD HL,HL (0x29), R234. -/
  | addHlHl
  /-- LD A,(HL+) (0x2A), R307. -/
  | ldAMemHlInc
  /-- DEC HL (0x2B), R233. -/
  | decHl
  /-- INC L (0x2C), R201. -/
  | incL
  /-- DEC L (0x2D), R203. -/
  | decL
  /-- CPL (0x2F), R206. -/
  | cpl
  /-- LD (HL-),A (0x32), R306. -/
  | ldMemHlDecA
  /-- INC SP (0x33), R232. -/
  | incSp
  /-- INC (HL) (0x34), R202. -/
  | incMemHl
  /-- DEC (HL) (0x35), R204. -/
  | decMemHl
  /-- SCF (0x37), R207. -/
  | scf
  /-- ADD HL,SP (0x39), R234. -/
  | addHlSp
  /-- LD A,(HL-) (0x3A), R308. -/
  | ldAMemHlDec
  /-- DEC SP (0x3B), R233. -/
  | decSp
  /-- INC A (0x3C), R201. -/
  | incA
  /-- DEC A (0x3D), R203. -/
  | decA
  /-- CCF (0x3F), R208. -/
  | ccf
  /-- LD B,B (0x40), R290. -/
  | ldBB
  /-- LD B,C (0x41), R290. -/
  | ldBC
  /-- LD B,D (0x42), R290. -/
  | ldBD
  /-- LD B,E (0x43), R290. -/
  | ldBE
  /-- LD B,H (0x44), R290. -/
  | ldBH
  /-- LD B,L (0x45), R290. -/
  | ldBL
  /-- LD B,(HL) (0x46), R292. -/
  | ldBMemHl
  /-- LD B,A (0x47), R290. -/
  | ldBA
  /-- LD C,B (0x48), R290. -/
  | ldCB
  /-- LD C,C (0x49), R290. -/
  | ldCC
  /-- LD C,D (0x4A), R290. -/
  | ldCD
  /-- LD C,E (0x4B), R290. -/
  | ldCE
  /-- LD C,H (0x4C), R290. -/
  | ldCH
  /-- LD C,L (0x4D), R290. -/
  | ldCL
  /-- LD C,(HL) (0x4E), R292. -/
  | ldCMemHl
  /-- LD C,A (0x4F), R290. -/
  | ldCA
  /-- LD D,B (0x50), R290. -/
  | ldDB
  /-- LD D,C (0x51), R290. -/
  | ldDC
  /-- LD D,D (0x52), R290. -/
  | ldDD
  /-- LD D,E (0x53), R290. -/
  | ldDE
  /-- LD D,H (0x54), R290. -/
  | ldDH
  /-- LD D,L (0x55), R290. -/
  | ldDL
  /-- LD D,(HL) (0x56), R292. -/
  | ldDMemHl
  /-- LD D,A (0x57), R290. -/
  | ldDA
  /-- LD E,B (0x58), R290. -/
  | ldEB
  /-- LD E,C (0x59), R290. -/
  | ldEC
  /-- LD E,D (0x5A), R290. -/
  | ldED
  /-- LD E,E (0x5B), R290. -/
  | ldEE
  /-- LD E,H (0x5C), R290. -/
  | ldEH
  /-- LD E,L (0x5D), R290. -/
  | ldEL
  /-- LD E,(HL) (0x5E), R292. -/
  | ldEMemHl
  /-- LD E,A (0x5F), R290. -/
  | ldEA
  /-- LD H,B (0x60), R290. -/
  | ldHB
  /-- LD H,C (0x61), R290. -/
  | ldHC
  /-- LD H,D (0x62), R290. -/
  | ldHD
  /-- LD H,E (0x63), R290. -/
  | ldHE
  /-- LD H,H (0x64), R290. -/
  | ldHH
  /-- LD H,L (0x65), R290. -/
  | ldHL
  /-- LD H,(HL) (0x66), R292. -/
  | ldHMemHl
  /-- LD H,A (0x67), R290. -/
  | ldHA
  /-- LD L,B (0x68), R290. -/
  | ldLB
  /-- LD L,C (0x69), R290. -/
  | ldLC
  /-- LD L,D (0x6A), R290. -/
  | ldLD
  /-- LD L,E (0x6B), R290. -/
  | ldLE
  /-- LD L,H (0x6C), R290. -/
  | ldLH
  /-- LD L,L (0x6D), R290. -/
  | ldLL
  /-- LD L,(HL) (0x6E), R292. -/
  | ldLMemHl
  /-- LD L,A (0x6F), R290. -/
  | ldLA
  /-- LD (HL),B (0x70), R293. -/
  | ldMemHlB
  /-- LD (HL),C (0x71), R293. -/
  | ldMemHlC
  /-- LD (HL),D (0x72), R293. -/
  | ldMemHlD
  /-- LD (HL),E (0x73), R293. -/
  | ldMemHlE
  /-- LD (HL),H (0x74), R293. -/
  | ldMemHlH
  /-- LD (HL),L (0x75), R293. -/
  | ldMemHlL
  /-- HALT (0x76), R391. -/
  | halt
  /-- LD (HL),A (0x77), R293. -/
  | ldMemHlA
  /-- LD A,B (0x78), R290. -/
  | ldAB
  /-- LD A,C (0x79), R290. -/
  | ldAC
  /-- LD A,D (0x7A), R290. -/
  | ldAD
  /-- LD A,E (0x7B), R290. -/
  | ldAE
  /-- LD A,H (0x7C), R290. -/
  | ldAH
  /-- LD A,L (0x7D), R290. -/
  | ldAL
  /-- LD A,(HL) (0x7E), R292. -/
  | ldAMemHl
  /-- LD A,A (0x7F), R290. -/
  | ldAA
  /-- ADD A,B (0x80), R177. -/
  | addAB
  /-- ADD A,C (0x81), R177. -/
  | addAC
  /-- ADD A,D (0x82), R177. -/
  | addAD
  /-- ADD A,E (0x83), R177. -/
  | addAE
  /-- ADD A,H (0x84), R177. -/
  | addAH
  /-- ADD A,L (0x85), R177. -/
  | addAL
  /-- ADD A,(HL) (0x86), R178. -/
  | addAMemHl
  /-- ADD A,A (0x87), R177. -/
  | addAA
  /-- ADC A,B (0x88), R180. -/
  | adcAB
  /-- ADC A,C (0x89), R180. -/
  | adcAC
  /-- ADC A,D (0x8A), R180. -/
  | adcAD
  /-- ADC A,E (0x8B), R180. -/
  | adcAE
  /-- ADC A,H (0x8C), R180. -/
  | adcAH
  /-- ADC A,L (0x8D), R180. -/
  | adcAL
  /-- ADC A,(HL) (0x8E), R181. -/
  | adcAMemHl
  /-- ADC A,A (0x8F), R180. -/
  | adcAA
  /-- SUB B (0x90), R183. -/
  | subB
  /-- SUB C (0x91), R183. -/
  | subC
  /-- SUB D (0x92), R183. -/
  | subD
  /-- SUB E (0x93), R183. -/
  | subE
  /-- SUB H (0x94), R183. -/
  | subH
  /-- SUB L (0x95), R183. -/
  | subL
  /-- SUB (HL) (0x96), R184. -/
  | subMemHl
  /-- SUB A (0x97), R183. -/
  | subA
  /-- SBC A,B (0x98), R186. -/
  | sbcAB
  /-- SBC A,C (0x99), R186. -/
  | sbcAC
  /-- SBC A,D (0x9A), R186. -/
  | sbcAD
  /-- SBC A,E (0x9B), R186. -/
  | sbcAE
  /-- SBC A,H (0x9C), R186. -/
  | sbcAH
  /-- SBC A,L (0x9D), R186. -/
  | sbcAL
  /-- SBC A,(HL) (0x9E), R187. -/
  | sbcAMemHl
  /-- SBC A,A (0x9F), R186. -/
  | sbcAA
  /-- AND B (0xA0), R192. -/
  | andB
  /-- AND C (0xA1), R192. -/
  | andC
  /-- AND D (0xA2), R192. -/
  | andD
  /-- AND E (0xA3), R192. -/
  | andE
  /-- AND H (0xA4), R192. -/
  | andH
  /-- AND L (0xA5), R192. -/
  | andL
  /-- AND (HL) (0xA6), R193. -/
  | andMemHl
  /-- AND A (0xA7), R192. -/
  | andA
  /-- XOR B (0xA8), R198. -/
  | xorB
  /-- XOR C (0xA9), R198. -/
  | xorC
  /-- XOR D (0xAA), R198. -/
  | xorD
  /-- XOR E (0xAB), R198. -/
  | xorE
  /-- XOR H (0xAC), R198. -/
  | xorH
  /-- XOR L (0xAD), R198. -/
  | xorL
  /-- XOR (HL) (0xAE), R199. -/
  | xorMemHl
  /-- XOR A (0xAF), R198. -/
  | xorA
  /-- OR B (0xB0), R195. -/
  | orB
  /-- OR C (0xB1), R195. -/
  | orC
  /-- OR D (0xB2), R195. -/
  | orD
  /-- OR E (0xB3), R195. -/
  | orE
  /-- OR H (0xB4), R195. -/
  | orH
  /-- OR L (0xB5), R195. -/
  | orL
  /-- OR (HL) (0xB6), R196. -/
  | orMemHl
  /-- OR A (0xB7), R195. -/
  | orA
  /-- CP B (0xB8), R189. -/
  | cpB
  /-- CP C (0xB9), R189. -/
  | cpC
  /-- CP D (0xBA), R189. -/
  | cpD
  /-- CP E (0xBB), R189. -/
  | cpE
  /-- CP H (0xBC), R189. -/
  | cpH
  /-- CP L (0xBD), R189. -/
  | cpL
  /-- CP (HL) (0xBE), R190. -/
  | cpMemHl
  /-- CP A (0xBF), R189. -/
  | cpA
  /-- RET NZ (0xC0), R369. -/
  | retNz
  /-- POP BC (0xC1), R337. -/
  | popBc
  /-- PUSH BC (0xC5), R335. -/
  | pushBc
  /-- RST 0x00 (0xC7), R371. -/
  | rst00
  /-- RET Z (0xC8), R369. -/
  | retZ
  /-- RET (0xC9), R368. -/
  | ret
  /-- RST 0x08 (0xCF), R371. -/
  | rst08
  /-- RET NC (0xD0), R369. -/
  | retNc
  /-- POP DE (0xD1), R337. -/
  | popDe
  /-- PUSH DE (0xD5), R335. -/
  | pushDe
  /-- RST 0x10 (0xD7), R371. -/
  | rst10
  /-- RET C (0xD8), R369. -/
  | retC
  /-- RETI (0xD9), R370. -/
  | reti
  /-- RST 0x18 (0xDF), R371. -/
  | rst18
  /-- POP HL (0xE1), R337. -/
  | popHl
  /-- LD (C),A (0xE2), R304. -/
  | ldMemCA
  /-- PUSH HL (0xE5), R335. -/
  | pushHl
  /-- RST 0x20 (0xE7), R371. -/
  | rst20
  /-- JP HL (0xE9), R363. -/
  | jpHl
  /-- RST 0x28 (0xEF), R371. -/
  | rst28
  /-- POP AF (0xF1), R338. -/
  | popAf
  /-- LD A,(C) (0xF2), R303. -/
  | ldAMemC
  /-- DI (0xF3), R393. -/
  | di
  /-- PUSH AF (0xF5), R336. -/
  | pushAf
  /-- RST 0x30 (0xF7), R371. -/
  | rst30
  /-- LD SP,HL (0xF9), R333. -/
  | ldSpHl
  /-- EI (0xFB), R394. -/
  | ei
  /-- RST 0x38 (0xFF), R371. -/
  | rst38
  /-- RLC B (0xCB 0x00), R262. -/
  | rlcB
  /-- RLC C (0xCB 0x01), R262. -/
  | rlcC
  /-- RLC D (0xCB 0x02), R262. -/
  | rlcD
  /-- RLC E (0xCB 0x03), R262. -/
  | rlcE
  /-- RLC H (0xCB 0x04), R262. -/
  | rlcH
  /-- RLC L (0xCB 0x05), R262. -/
  | rlcL
  /-- RLC (HL) (0xCB 0x06), R263. -/
  | rlcMemHl
  /-- RLC A (0xCB 0x07), R262. -/
  | rlcA
  /-- RRC B (0xCB 0x08), R264. -/
  | rrcB
  /-- RRC C (0xCB 0x09), R264. -/
  | rrcC
  /-- RRC D (0xCB 0x0A), R264. -/
  | rrcD
  /-- RRC E (0xCB 0x0B), R264. -/
  | rrcE
  /-- RRC H (0xCB 0x0C), R264. -/
  | rrcH
  /-- RRC L (0xCB 0x0D), R264. -/
  | rrcL
  /-- RRC (HL) (0xCB 0x0E), R265. -/
  | rrcMemHl
  /-- RRC A (0xCB 0x0F), R264. -/
  | rrcA
  /-- RL B (0xCB 0x10), R266. -/
  | rlB
  /-- RL C (0xCB 0x11), R266. -/
  | rlC
  /-- RL D (0xCB 0x12), R266. -/
  | rlD
  /-- RL E (0xCB 0x13), R266. -/
  | rlE
  /-- RL H (0xCB 0x14), R266. -/
  | rlH
  /-- RL L (0xCB 0x15), R266. -/
  | rlL
  /-- RL (HL) (0xCB 0x16), R267. -/
  | rlMemHl
  /-- RL A (0xCB 0x17), R266. -/
  | rlA
  /-- RR B (0xCB 0x18), R268. -/
  | rrB
  /-- RR C (0xCB 0x19), R268. -/
  | rrC
  /-- RR D (0xCB 0x1A), R268. -/
  | rrD
  /-- RR E (0xCB 0x1B), R268. -/
  | rrE
  /-- RR H (0xCB 0x1C), R268. -/
  | rrH
  /-- RR L (0xCB 0x1D), R268. -/
  | rrL
  /-- RR (HL) (0xCB 0x1E), R269. -/
  | rrMemHl
  /-- RR A (0xCB 0x1F), R268. -/
  | rrA
  /-- SLA B (0xCB 0x20), R270. -/
  | slaB
  /-- SLA C (0xCB 0x21), R270. -/
  | slaC
  /-- SLA D (0xCB 0x22), R270. -/
  | slaD
  /-- SLA E (0xCB 0x23), R270. -/
  | slaE
  /-- SLA H (0xCB 0x24), R270. -/
  | slaH
  /-- SLA L (0xCB 0x25), R270. -/
  | slaL
  /-- SLA (HL) (0xCB 0x26), R271. -/
  | slaMemHl
  /-- SLA A (0xCB 0x27), R270. -/
  | slaA
  /-- SRA B (0xCB 0x28), R272. -/
  | sraB
  /-- SRA C (0xCB 0x29), R272. -/
  | sraC
  /-- SRA D (0xCB 0x2A), R272. -/
  | sraD
  /-- SRA E (0xCB 0x2B), R272. -/
  | sraE
  /-- SRA H (0xCB 0x2C), R272. -/
  | sraH
  /-- SRA L (0xCB 0x2D), R272. -/
  | sraL
  /-- SRA (HL) (0xCB 0x2E), R273. -/
  | sraMemHl
  /-- SRA A (0xCB 0x2F), R272. -/
  | sraA
  /-- SWAP B (0xCB 0x30), R274. -/
  | swapB
  /-- SWAP C (0xCB 0x31), R274. -/
  | swapC
  /-- SWAP D (0xCB 0x32), R274. -/
  | swapD
  /-- SWAP E (0xCB 0x33), R274. -/
  | swapE
  /-- SWAP H (0xCB 0x34), R274. -/
  | swapH
  /-- SWAP L (0xCB 0x35), R274. -/
  | swapL
  /-- SWAP (HL) (0xCB 0x36), R275. -/
  | swapMemHl
  /-- SWAP A (0xCB 0x37), R274. -/
  | swapA
  /-- SRL B (0xCB 0x38), R276. -/
  | srlB
  /-- SRL C (0xCB 0x39), R276. -/
  | srlC
  /-- SRL D (0xCB 0x3A), R276. -/
  | srlD
  /-- SRL E (0xCB 0x3B), R276. -/
  | srlE
  /-- SRL H (0xCB 0x3C), R276. -/
  | srlH
  /-- SRL L (0xCB 0x3D), R276. -/
  | srlL
  /-- SRL (HL) (0xCB 0x3E), R277. -/
  | srlMemHl
  /-- SRL A (0xCB 0x3F), R276. -/
  | srlA
  /-- BIT 0,B (0xCB 0x40), R278. -/
  | bit0B
  /-- BIT 0,C (0xCB 0x41), R278. -/
  | bit0C
  /-- BIT 0,D (0xCB 0x42), R278. -/
  | bit0D
  /-- BIT 0,E (0xCB 0x43), R278. -/
  | bit0E
  /-- BIT 0,H (0xCB 0x44), R278. -/
  | bit0H
  /-- BIT 0,L (0xCB 0x45), R278. -/
  | bit0L
  /-- BIT 0,(HL) (0xCB 0x46), R279. -/
  | bit0MemHl
  /-- BIT 0,A (0xCB 0x47), R278. -/
  | bit0A
  /-- BIT 1,B (0xCB 0x48), R278. -/
  | bit1B
  /-- BIT 1,C (0xCB 0x49), R278. -/
  | bit1C
  /-- BIT 1,D (0xCB 0x4A), R278. -/
  | bit1D
  /-- BIT 1,E (0xCB 0x4B), R278. -/
  | bit1E
  /-- BIT 1,H (0xCB 0x4C), R278. -/
  | bit1H
  /-- BIT 1,L (0xCB 0x4D), R278. -/
  | bit1L
  /-- BIT 1,(HL) (0xCB 0x4E), R279. -/
  | bit1MemHl
  /-- BIT 1,A (0xCB 0x4F), R278. -/
  | bit1A
  /-- BIT 2,B (0xCB 0x50), R278. -/
  | bit2B
  /-- BIT 2,C (0xCB 0x51), R278. -/
  | bit2C
  /-- BIT 2,D (0xCB 0x52), R278. -/
  | bit2D
  /-- BIT 2,E (0xCB 0x53), R278. -/
  | bit2E
  /-- BIT 2,H (0xCB 0x54), R278. -/
  | bit2H
  /-- BIT 2,L (0xCB 0x55), R278. -/
  | bit2L
  /-- BIT 2,(HL) (0xCB 0x56), R279. -/
  | bit2MemHl
  /-- BIT 2,A (0xCB 0x57), R278. -/
  | bit2A
  /-- BIT 3,B (0xCB 0x58), R278. -/
  | bit3B
  /-- BIT 3,C (0xCB 0x59), R278. -/
  | bit3C
  /-- BIT 3,D (0xCB 0x5A), R278. -/
  | bit3D
  /-- BIT 3,E (0xCB 0x5B), R278. -/
  | bit3E
  /-- BIT 3,H (0xCB 0x5C), R278. -/
  | bit3H
  /-- BIT 3,L (0xCB 0x5D), R278. -/
  | bit3L
  /-- BIT 3,(HL) (0xCB 0x5E), R279. -/
  | bit3MemHl
  /-- BIT 3,A (0xCB 0x5F), R278. -/
  | bit3A
  /-- BIT 4,B (0xCB 0x60), R278. -/
  | bit4B
  /-- BIT 4,C (0xCB 0x61), R278. -/
  | bit4C
  /-- BIT 4,D (0xCB 0x62), R278. -/
  | bit4D
  /-- BIT 4,E (0xCB 0x63), R278. -/
  | bit4E
  /-- BIT 4,H (0xCB 0x64), R278. -/
  | bit4H
  /-- BIT 4,L (0xCB 0x65), R278. -/
  | bit4L
  /-- BIT 4,(HL) (0xCB 0x66), R279. -/
  | bit4MemHl
  /-- BIT 4,A (0xCB 0x67), R278. -/
  | bit4A
  /-- BIT 5,B (0xCB 0x68), R278. -/
  | bit5B
  /-- BIT 5,C (0xCB 0x69), R278. -/
  | bit5C
  /-- BIT 5,D (0xCB 0x6A), R278. -/
  | bit5D
  /-- BIT 5,E (0xCB 0x6B), R278. -/
  | bit5E
  /-- BIT 5,H (0xCB 0x6C), R278. -/
  | bit5H
  /-- BIT 5,L (0xCB 0x6D), R278. -/
  | bit5L
  /-- BIT 5,(HL) (0xCB 0x6E), R279. -/
  | bit5MemHl
  /-- BIT 5,A (0xCB 0x6F), R278. -/
  | bit5A
  /-- BIT 6,B (0xCB 0x70), R278. -/
  | bit6B
  /-- BIT 6,C (0xCB 0x71), R278. -/
  | bit6C
  /-- BIT 6,D (0xCB 0x72), R278. -/
  | bit6D
  /-- BIT 6,E (0xCB 0x73), R278. -/
  | bit6E
  /-- BIT 6,H (0xCB 0x74), R278. -/
  | bit6H
  /-- BIT 6,L (0xCB 0x75), R278. -/
  | bit6L
  /-- BIT 6,(HL) (0xCB 0x76), R279. -/
  | bit6MemHl
  /-- BIT 6,A (0xCB 0x77), R278. -/
  | bit6A
  /-- BIT 7,B (0xCB 0x78), R278. -/
  | bit7B
  /-- BIT 7,C (0xCB 0x79), R278. -/
  | bit7C
  /-- BIT 7,D (0xCB 0x7A), R278. -/
  | bit7D
  /-- BIT 7,E (0xCB 0x7B), R278. -/
  | bit7E
  /-- BIT 7,H (0xCB 0x7C), R278. -/
  | bit7H
  /-- BIT 7,L (0xCB 0x7D), R278. -/
  | bit7L
  /-- BIT 7,(HL) (0xCB 0x7E), R279. -/
  | bit7MemHl
  /-- BIT 7,A (0xCB 0x7F), R278. -/
  | bit7A
  /-- RES 0,B (0xCB 0x80), R280. -/
  | res0B
  /-- RES 0,C (0xCB 0x81), R280. -/
  | res0C
  /-- RES 0,D (0xCB 0x82), R280. -/
  | res0D
  /-- RES 0,E (0xCB 0x83), R280. -/
  | res0E
  /-- RES 0,H (0xCB 0x84), R280. -/
  | res0H
  /-- RES 0,L (0xCB 0x85), R280. -/
  | res0L
  /-- RES 0,(HL) (0xCB 0x86), R281. -/
  | res0MemHl
  /-- RES 0,A (0xCB 0x87), R280. -/
  | res0A
  /-- RES 1,B (0xCB 0x88), R280. -/
  | res1B
  /-- RES 1,C (0xCB 0x89), R280. -/
  | res1C
  /-- RES 1,D (0xCB 0x8A), R280. -/
  | res1D
  /-- RES 1,E (0xCB 0x8B), R280. -/
  | res1E
  /-- RES 1,H (0xCB 0x8C), R280. -/
  | res1H
  /-- RES 1,L (0xCB 0x8D), R280. -/
  | res1L
  /-- RES 1,(HL) (0xCB 0x8E), R281. -/
  | res1MemHl
  /-- RES 1,A (0xCB 0x8F), R280. -/
  | res1A
  /-- RES 2,B (0xCB 0x90), R280. -/
  | res2B
  /-- RES 2,C (0xCB 0x91), R280. -/
  | res2C
  /-- RES 2,D (0xCB 0x92), R280. -/
  | res2D
  /-- RES 2,E (0xCB 0x93), R280. -/
  | res2E
  /-- RES 2,H (0xCB 0x94), R280. -/
  | res2H
  /-- RES 2,L (0xCB 0x95), R280. -/
  | res2L
  /-- RES 2,(HL) (0xCB 0x96), R281. -/
  | res2MemHl
  /-- RES 2,A (0xCB 0x97), R280. -/
  | res2A
  /-- RES 3,B (0xCB 0x98), R280. -/
  | res3B
  /-- RES 3,C (0xCB 0x99), R280. -/
  | res3C
  /-- RES 3,D (0xCB 0x9A), R280. -/
  | res3D
  /-- RES 3,E (0xCB 0x9B), R280. -/
  | res3E
  /-- RES 3,H (0xCB 0x9C), R280. -/
  | res3H
  /-- RES 3,L (0xCB 0x9D), R280. -/
  | res3L
  /-- RES 3,(HL) (0xCB 0x9E), R281. -/
  | res3MemHl
  /-- RES 3,A (0xCB 0x9F), R280. -/
  | res3A
  /-- RES 4,B (0xCB 0xA0), R280. -/
  | res4B
  /-- RES 4,C (0xCB 0xA1), R280. -/
  | res4C
  /-- RES 4,D (0xCB 0xA2), R280. -/
  | res4D
  /-- RES 4,E (0xCB 0xA3), R280. -/
  | res4E
  /-- RES 4,H (0xCB 0xA4), R280. -/
  | res4H
  /-- RES 4,L (0xCB 0xA5), R280. -/
  | res4L
  /-- RES 4,(HL) (0xCB 0xA6), R281. -/
  | res4MemHl
  /-- RES 4,A (0xCB 0xA7), R280. -/
  | res4A
  /-- RES 5,B (0xCB 0xA8), R280. -/
  | res5B
  /-- RES 5,C (0xCB 0xA9), R280. -/
  | res5C
  /-- RES 5,D (0xCB 0xAA), R280. -/
  | res5D
  /-- RES 5,E (0xCB 0xAB), R280. -/
  | res5E
  /-- RES 5,H (0xCB 0xAC), R280. -/
  | res5H
  /-- RES 5,L (0xCB 0xAD), R280. -/
  | res5L
  /-- RES 5,(HL) (0xCB 0xAE), R281. -/
  | res5MemHl
  /-- RES 5,A (0xCB 0xAF), R280. -/
  | res5A
  /-- RES 6,B (0xCB 0xB0), R280. -/
  | res6B
  /-- RES 6,C (0xCB 0xB1), R280. -/
  | res6C
  /-- RES 6,D (0xCB 0xB2), R280. -/
  | res6D
  /-- RES 6,E (0xCB 0xB3), R280. -/
  | res6E
  /-- RES 6,H (0xCB 0xB4), R280. -/
  | res6H
  /-- RES 6,L (0xCB 0xB5), R280. -/
  | res6L
  /-- RES 6,(HL) (0xCB 0xB6), R281. -/
  | res6MemHl
  /-- RES 6,A (0xCB 0xB7), R280. -/
  | res6A
  /-- RES 7,B (0xCB 0xB8), R280. -/
  | res7B
  /-- RES 7,C (0xCB 0xB9), R280. -/
  | res7C
  /-- RES 7,D (0xCB 0xBA), R280. -/
  | res7D
  /-- RES 7,E (0xCB 0xBB), R280. -/
  | res7E
  /-- RES 7,H (0xCB 0xBC), R280. -/
  | res7H
  /-- RES 7,L (0xCB 0xBD), R280. -/
  | res7L
  /-- RES 7,(HL) (0xCB 0xBE), R281. -/
  | res7MemHl
  /-- RES 7,A (0xCB 0xBF), R280. -/
  | res7A
  /-- SET 0,B (0xCB 0xC0), R282. -/
  | set0B
  /-- SET 0,C (0xCB 0xC1), R282. -/
  | set0C
  /-- SET 0,D (0xCB 0xC2), R282. -/
  | set0D
  /-- SET 0,E (0xCB 0xC3), R282. -/
  | set0E
  /-- SET 0,H (0xCB 0xC4), R282. -/
  | set0H
  /-- SET 0,L (0xCB 0xC5), R282. -/
  | set0L
  /-- SET 0,(HL) (0xCB 0xC6), R283. -/
  | set0MemHl
  /-- SET 0,A (0xCB 0xC7), R282. -/
  | set0A
  /-- SET 1,B (0xCB 0xC8), R282. -/
  | set1B
  /-- SET 1,C (0xCB 0xC9), R282. -/
  | set1C
  /-- SET 1,D (0xCB 0xCA), R282. -/
  | set1D
  /-- SET 1,E (0xCB 0xCB), R282. -/
  | set1E
  /-- SET 1,H (0xCB 0xCC), R282. -/
  | set1H
  /-- SET 1,L (0xCB 0xCD), R282. -/
  | set1L
  /-- SET 1,(HL) (0xCB 0xCE), R283. -/
  | set1MemHl
  /-- SET 1,A (0xCB 0xCF), R282. -/
  | set1A
  /-- SET 2,B (0xCB 0xD0), R282. -/
  | set2B
  /-- SET 2,C (0xCB 0xD1), R282. -/
  | set2C
  /-- SET 2,D (0xCB 0xD2), R282. -/
  | set2D
  /-- SET 2,E (0xCB 0xD3), R282. -/
  | set2E
  /-- SET 2,H (0xCB 0xD4), R282. -/
  | set2H
  /-- SET 2,L (0xCB 0xD5), R282. -/
  | set2L
  /-- SET 2,(HL) (0xCB 0xD6), R283. -/
  | set2MemHl
  /-- SET 2,A (0xCB 0xD7), R282. -/
  | set2A
  /-- SET 3,B (0xCB 0xD8), R282. -/
  | set3B
  /-- SET 3,C (0xCB 0xD9), R282. -/
  | set3C
  /-- SET 3,D (0xCB 0xDA), R282. -/
  | set3D
  /-- SET 3,E (0xCB 0xDB), R282. -/
  | set3E
  /-- SET 3,H (0xCB 0xDC), R282. -/
  | set3H
  /-- SET 3,L (0xCB 0xDD), R282. -/
  | set3L
  /-- SET 3,(HL) (0xCB 0xDE), R283. -/
  | set3MemHl
  /-- SET 3,A (0xCB 0xDF), R282. -/
  | set3A
  /-- SET 4,B (0xCB 0xE0), R282. -/
  | set4B
  /-- SET 4,C (0xCB 0xE1), R282. -/
  | set4C
  /-- SET 4,D (0xCB 0xE2), R282. -/
  | set4D
  /-- SET 4,E (0xCB 0xE3), R282. -/
  | set4E
  /-- SET 4,H (0xCB 0xE4), R282. -/
  | set4H
  /-- SET 4,L (0xCB 0xE5), R282. -/
  | set4L
  /-- SET 4,(HL) (0xCB 0xE6), R283. -/
  | set4MemHl
  /-- SET 4,A (0xCB 0xE7), R282. -/
  | set4A
  /-- SET 5,B (0xCB 0xE8), R282. -/
  | set5B
  /-- SET 5,C (0xCB 0xE9), R282. -/
  | set5C
  /-- SET 5,D (0xCB 0xEA), R282. -/
  | set5D
  /-- SET 5,E (0xCB 0xEB), R282. -/
  | set5E
  /-- SET 5,H (0xCB 0xEC), R282. -/
  | set5H
  /-- SET 5,L (0xCB 0xED), R282. -/
  | set5L
  /-- SET 5,(HL) (0xCB 0xEE), R283. -/
  | set5MemHl
  /-- SET 5,A (0xCB 0xEF), R282. -/
  | set5A
  /-- SET 6,B (0xCB 0xF0), R282. -/
  | set6B
  /-- SET 6,C (0xCB 0xF1), R282. -/
  | set6C
  /-- SET 6,D (0xCB 0xF2), R282. -/
  | set6D
  /-- SET 6,E (0xCB 0xF3), R282. -/
  | set6E
  /-- SET 6,H (0xCB 0xF4), R282. -/
  | set6H
  /-- SET 6,L (0xCB 0xF5), R282. -/
  | set6L
  /-- SET 6,(HL) (0xCB 0xF6), R283. -/
  | set6MemHl
  /-- SET 6,A (0xCB 0xF7), R282. -/
  | set6A
  /-- SET 7,B (0xCB 0xF8), R282. -/
  | set7B
  /-- SET 7,C (0xCB 0xF9), R282. -/
  | set7C
  /-- SET 7,D (0xCB 0xFA), R282. -/
  | set7D
  /-- SET 7,E (0xCB 0xFB), R282. -/
  | set7E
  /-- SET 7,H (0xCB 0xFC), R282. -/
  | set7H
  /-- SET 7,L (0xCB 0xFD), R282. -/
  | set7L
  /-- SET 7,(HL) (0xCB 0xFE), R283. -/
  | set7MemHl
  /-- SET 7,A (0xCB 0xFF), R282. -/
  | set7A
  deriving DecidableEq, Repr

end Sys2Proof
end

