-- ==== Sys2Proof/WellFormed.lean ====
section
/-! DEFINITION. Which terms of Instr are instructions. The types already bound every operand; two checks remain. -/

namespace Sys2Proof

/-- The eleven opcode bytes with no table entry (R112). -/
def illegalBytes : List Byte := [0xD3, 0xDB, 0xDD, 0xE3, 0xE4, 0xEB, 0xEC, 0xED, 0xF4, 0xFC, 0xFD]

/-- A term is well formed unless it is `illegal` with a byte that has a table entry (R112), or the prefix taken as an instruction
of its own: "The byte 0xCB in the opcode position is not an instruction" (R149), and its words are the extended instruction's. -/
def Instr.wf : Instr → Bool
  | .illegal o => illegalBytes.contains o
  | .prefixCb _ => false
  | .ldBcN16 _ | .ldBN8 _ | .ldMemN16Sp _ | .ldCN8 _ | .stop _ | .ldDeN16 _ | .ldDN8 _ | .jrE8 _ | .ldEN8 _ |
    .jrNzE8 _ | .ldHlN16 _ | .ldHN8 _ | .jrZE8 _ | .ldLN8 _ | .jrNcE8 _ | .ldSpN16 _ | .ldMemHlN8 _ | .jrCE8 _ |
    .ldAN8 _ | .jpNzN16 _ | .jpN16 _ | .callNzN16 _ | .addAN8 _ | .jpZN16 _ | .callZN16 _ | .callN16 _ | .adcAN8 _ |
    .jpNcN16 _ | .callNcN16 _ | .subN8 _ | .jpCN16 _ | .callCN16 _ | .sbcAN8 _ | .ldhMemN8A _ | .andN8 _ | .addSpE8 _ |
    .ldMemN16A _ | .xorN8 _ | .ldhAMemN8 _ | .orN8 _ | .ldHlSpE8 _ | .ldAMemN16 _ | .cpN8 _ | .nop | .ldMemBcA |
    .incBc | .incB | .decB | .rlca | .addHlBc | .ldAMemBc | .decBc | .incC | .decC | .rrca | .ldMemDeA | .incDe |
    .incD | .decD | .rla | .addHlDe | .ldAMemDe | .decDe | .incE | .decE | .rra | .ldMemHlIncA | .incHl | .incH |
    .decH | .daa | .addHlHl | .ldAMemHlInc | .decHl | .incL | .decL | .cpl | .ldMemHlDecA | .incSp | .incMemHl |
    .decMemHl | .scf | .addHlSp | .ldAMemHlDec | .decSp | .incA | .decA | .ccf | .ldBB | .ldBC | .ldBD | .ldBE |
    .ldBH | .ldBL | .ldBMemHl | .ldBA | .ldCB | .ldCC | .ldCD | .ldCE | .ldCH | .ldCL | .ldCMemHl | .ldCA | .ldDB |
    .ldDC | .ldDD | .ldDE | .ldDH | .ldDL | .ldDMemHl | .ldDA | .ldEB | .ldEC | .ldED | .ldEE | .ldEH | .ldEL |
    .ldEMemHl | .ldEA | .ldHB | .ldHC | .ldHD | .ldHE | .ldHH | .ldHL | .ldHMemHl | .ldHA | .ldLB | .ldLC | .ldLD |
    .ldLE | .ldLH | .ldLL | .ldLMemHl | .ldLA | .ldMemHlB | .ldMemHlC | .ldMemHlD | .ldMemHlE | .ldMemHlH | .ldMemHlL |
    .halt | .ldMemHlA | .ldAB | .ldAC | .ldAD | .ldAE | .ldAH | .ldAL | .ldAMemHl | .ldAA | .addAB | .addAC | .addAD |
    .addAE | .addAH | .addAL | .addAMemHl | .addAA | .adcAB | .adcAC | .adcAD | .adcAE | .adcAH | .adcAL | .adcAMemHl |
    .adcAA | .subB | .subC | .subD | .subE | .subH | .subL | .subMemHl | .subA | .sbcAB | .sbcAC | .sbcAD | .sbcAE |
    .sbcAH | .sbcAL | .sbcAMemHl | .sbcAA | .andB | .andC | .andD | .andE | .andH | .andL | .andMemHl | .andA | .xorB |
    .xorC | .xorD | .xorE | .xorH | .xorL | .xorMemHl | .xorA | .orB | .orC | .orD | .orE | .orH | .orL | .orMemHl |
    .orA | .cpB | .cpC | .cpD | .cpE | .cpH | .cpL | .cpMemHl | .cpA | .retNz | .popBc | .pushBc | .rst00 | .retZ |
    .ret | .rst08 | .retNc | .popDe | .pushDe | .rst10 | .retC | .reti | .rst18 | .popHl | .ldMemCA | .pushHl |
    .rst20 | .jpHl | .rst28 | .popAf | .ldAMemC | .di | .pushAf | .rst30 | .ldSpHl | .ei | .rst38 | .rlcB | .rlcC |
    .rlcD | .rlcE | .rlcH | .rlcL | .rlcMemHl | .rlcA | .rrcB | .rrcC | .rrcD | .rrcE | .rrcH | .rrcL | .rrcMemHl |
    .rrcA | .rlB | .rlC | .rlD | .rlE | .rlH | .rlL | .rlMemHl | .rlA | .rrB | .rrC | .rrD | .rrE | .rrH | .rrL |
    .rrMemHl | .rrA | .slaB | .slaC | .slaD | .slaE | .slaH | .slaL | .slaMemHl | .slaA | .sraB | .sraC | .sraD |
    .sraE | .sraH | .sraL | .sraMemHl | .sraA | .swapB | .swapC | .swapD | .swapE | .swapH | .swapL | .swapMemHl |
    .swapA | .srlB | .srlC | .srlD | .srlE | .srlH | .srlL | .srlMemHl | .srlA | .bit0B | .bit0C | .bit0D | .bit0E |
    .bit0H | .bit0L | .bit0MemHl | .bit0A | .bit1B | .bit1C | .bit1D | .bit1E | .bit1H | .bit1L | .bit1MemHl | .bit1A |
    .bit2B | .bit2C | .bit2D | .bit2E | .bit2H | .bit2L | .bit2MemHl | .bit2A | .bit3B | .bit3C | .bit3D | .bit3E |
    .bit3H | .bit3L | .bit3MemHl | .bit3A | .bit4B | .bit4C | .bit4D | .bit4E | .bit4H | .bit4L | .bit4MemHl | .bit4A |
    .bit5B | .bit5C | .bit5D | .bit5E | .bit5H | .bit5L | .bit5MemHl | .bit5A | .bit6B | .bit6C | .bit6D | .bit6E |
    .bit6H | .bit6L | .bit6MemHl | .bit6A | .bit7B | .bit7C | .bit7D | .bit7E | .bit7H | .bit7L | .bit7MemHl | .bit7A |
    .res0B | .res0C | .res0D | .res0E | .res0H | .res0L | .res0MemHl | .res0A | .res1B | .res1C | .res1D | .res1E |
    .res1H | .res1L | .res1MemHl | .res1A | .res2B | .res2C | .res2D | .res2E | .res2H | .res2L | .res2MemHl | .res2A |
    .res3B | .res3C | .res3D | .res3E | .res3H | .res3L | .res3MemHl | .res3A | .res4B | .res4C | .res4D | .res4E |
    .res4H | .res4L | .res4MemHl | .res4A | .res5B | .res5C | .res5D | .res5E | .res5H | .res5L | .res5MemHl | .res5A |
    .res6B | .res6C | .res6D | .res6E | .res6H | .res6L | .res6MemHl | .res6A | .res7B | .res7C | .res7D | .res7E |
    .res7H | .res7L | .res7MemHl | .res7A | .set0B | .set0C | .set0D | .set0E | .set0H | .set0L | .set0MemHl | .set0A |
    .set1B | .set1C | .set1D | .set1E | .set1H | .set1L | .set1MemHl | .set1A | .set2B | .set2C | .set2D | .set2E |
    .set2H | .set2L | .set2MemHl | .set2A | .set3B | .set3C | .set3D | .set3E | .set3H | .set3L | .set3MemHl | .set3A |
    .set4B | .set4C | .set4D | .set4E | .set4H | .set4L | .set4MemHl | .set4A | .set5B | .set5C | .set5D | .set5E |
    .set5H | .set5L | .set5MemHl | .set5A | .set6B | .set6C | .set6D | .set6E | .set6H | .set6L | .set6MemHl | .set6A |
    .set7B | .set7C | .set7D | .set7E | .set7H | .set7L | .set7MemHl | .set7A
    => true

end Sys2Proof
end

