-- ==== Sys2Proof/Decode.lean ====
section
/-! DEFINITION. Decoding (spec/30_encoding.md): the base and extended tables as grids, laid out as R110 and R111 lay them out, a
decoder that is total on any bytes, and after it an encoder. -/

namespace Sys2Proof

open Sys2Proof.Machine (wordOf hiByte loByte)

/-- An entry of the base table: an instruction of one byte, one that takes an immediate byte, one that takes two, or the prefix
byte, which selects the extended table (R100, R102, R114). -/
inductive BaseEntry where
  | op (i : Instr)
  | n8 (mk : Byte → Instr)
  | n16 (mk : Word → Instr)
  | extended

/-- The base table's row 0x (R110). -/
def baseRow0 : List BaseEntry := [
    .op .nop, .n16 .ldBcN16, .op .ldMemBcA, .op .incBc, .op .incB, .op .decB, .n8 .ldBN8, .op .rlca, .n16 .ldMemN16Sp,
    .op .addHlBc, .op .ldAMemBc, .op .decBc, .op .incC, .op .decC, .n8 .ldCN8, .op .rrca]

/-- The base table's row 1x (R110). -/
def baseRow1 : List BaseEntry := [
    .n8 .stop, .n16 .ldDeN16, .op .ldMemDeA, .op .incDe, .op .incD, .op .decD, .n8 .ldDN8, .op .rla, .n8 .jrE8,
    .op .addHlDe, .op .ldAMemDe, .op .decDe, .op .incE, .op .decE, .n8 .ldEN8, .op .rra]

/-- The base table's row 2x (R110). -/
def baseRow2 : List BaseEntry := [
    .n8 .jrNzE8, .n16 .ldHlN16, .op .ldMemHlIncA, .op .incHl, .op .incH, .op .decH, .n8 .ldHN8, .op .daa, .n8 .jrZE8,
    .op .addHlHl, .op .ldAMemHlInc, .op .decHl, .op .incL, .op .decL, .n8 .ldLN8, .op .cpl]

/-- The base table's row 3x (R110). -/
def baseRow3 : List BaseEntry := [
    .n8 .jrNcE8, .n16 .ldSpN16, .op .ldMemHlDecA, .op .incSp, .op .incMemHl, .op .decMemHl, .n8 .ldMemHlN8, .op .scf,
    .n8 .jrCE8, .op .addHlSp, .op .ldAMemHlDec, .op .decSp, .op .incA, .op .decA, .n8 .ldAN8, .op .ccf]

/-- The base table's row 4x (R110). -/
def baseRow4 : List BaseEntry := [
    .op .ldBB, .op .ldBC, .op .ldBD, .op .ldBE, .op .ldBH, .op .ldBL, .op .ldBMemHl, .op .ldBA, .op .ldCB, .op .ldCC,
    .op .ldCD, .op .ldCE, .op .ldCH, .op .ldCL, .op .ldCMemHl, .op .ldCA]

/-- The base table's row 5x (R110). -/
def baseRow5 : List BaseEntry := [
    .op .ldDB, .op .ldDC, .op .ldDD, .op .ldDE, .op .ldDH, .op .ldDL, .op .ldDMemHl, .op .ldDA, .op .ldEB, .op .ldEC,
    .op .ldED, .op .ldEE, .op .ldEH, .op .ldEL, .op .ldEMemHl, .op .ldEA]

/-- The base table's row 6x (R110). -/
def baseRow6 : List BaseEntry := [
    .op .ldHB, .op .ldHC, .op .ldHD, .op .ldHE, .op .ldHH, .op .ldHL, .op .ldHMemHl, .op .ldHA, .op .ldLB, .op .ldLC,
    .op .ldLD, .op .ldLE, .op .ldLH, .op .ldLL, .op .ldLMemHl, .op .ldLA]

/-- The base table's row 7x (R110). -/
def baseRow7 : List BaseEntry := [
    .op .ldMemHlB, .op .ldMemHlC, .op .ldMemHlD, .op .ldMemHlE, .op .ldMemHlH, .op .ldMemHlL, .op .halt, .op .ldMemHlA,
    .op .ldAB, .op .ldAC, .op .ldAD, .op .ldAE, .op .ldAH, .op .ldAL, .op .ldAMemHl, .op .ldAA]

/-- The base table's row 8x (R110). -/
def baseRow8 : List BaseEntry := [
    .op .addAB, .op .addAC, .op .addAD, .op .addAE, .op .addAH, .op .addAL, .op .addAMemHl, .op .addAA, .op .adcAB,
    .op .adcAC, .op .adcAD, .op .adcAE, .op .adcAH, .op .adcAL, .op .adcAMemHl, .op .adcAA]

/-- The base table's row 9x (R110). -/
def baseRow9 : List BaseEntry := [
    .op .subB, .op .subC, .op .subD, .op .subE, .op .subH, .op .subL, .op .subMemHl, .op .subA, .op .sbcAB, .op .sbcAC,
    .op .sbcAD, .op .sbcAE, .op .sbcAH, .op .sbcAL, .op .sbcAMemHl, .op .sbcAA]

/-- The base table's row Ax (R110). -/
def baseRowA : List BaseEntry := [
    .op .andB, .op .andC, .op .andD, .op .andE, .op .andH, .op .andL, .op .andMemHl, .op .andA, .op .xorB, .op .xorC,
    .op .xorD, .op .xorE, .op .xorH, .op .xorL, .op .xorMemHl, .op .xorA]

/-- The base table's row Bx (R110). -/
def baseRowB : List BaseEntry := [
    .op .orB, .op .orC, .op .orD, .op .orE, .op .orH, .op .orL, .op .orMemHl, .op .orA, .op .cpB, .op .cpC, .op .cpD,
    .op .cpE, .op .cpH, .op .cpL, .op .cpMemHl, .op .cpA]

/-- The base table's row Cx (R110). -/
def baseRowC : List BaseEntry := [
    .op .retNz, .op .popBc, .n16 .jpNzN16, .n16 .jpN16, .n16 .callNzN16, .op .pushBc, .n8 .addAN8, .op .rst00,
    .op .retZ, .op .ret, .n16 .jpZN16, .extended, .n16 .callZN16, .n16 .callN16, .n8 .adcAN8, .op .rst08]

/-- The base table's row Dx (R110). -/
def baseRowD : List BaseEntry := [
    .op .retNc, .op .popDe, .n16 .jpNcN16, .op (.illegal 0xD3), .n16 .callNcN16, .op .pushDe, .n8 .subN8, .op .rst10,
    .op .retC, .op .reti, .n16 .jpCN16, .op (.illegal 0xDB), .n16 .callCN16, .op (.illegal 0xDD), .n8 .sbcAN8,
    .op .rst18]

/-- The base table's row Ex (R110). -/
def baseRowE : List BaseEntry := [
    .n8 .ldhMemN8A, .op .popHl, .op .ldMemCA, .op (.illegal 0xE3), .op (.illegal 0xE4), .op .pushHl, .n8 .andN8,
    .op .rst20, .n8 .addSpE8, .op .jpHl, .n16 .ldMemN16A, .op (.illegal 0xEB), .op (.illegal 0xEC),
    .op (.illegal 0xED), .n8 .xorN8, .op .rst28]

/-- The base table's row Fx (R110). -/
def baseRowF : List BaseEntry := [
    .n8 .ldhAMemN8, .op .popAf, .op .ldAMemC, .op .di, .op (.illegal 0xF4), .op .pushAf, .n8 .orN8, .op .rst30,
    .n8 .ldHlSpE8, .op .ldSpHl, .n16 .ldAMemN16, .op .ei, .op (.illegal 0xFC), .op (.illegal 0xFD), .n8 .cpN8,
    .op .rst38]

/-- The base table (R110): its rows by high nibble. -/
def baseGrid : List (List BaseEntry) := [
    baseRow0, baseRow1, baseRow2, baseRow3, baseRow4, baseRow5, baseRow6, baseRow7, baseRow8, baseRow9, baseRowA,
    baseRowB, baseRowC, baseRowD, baseRowE, baseRowF]

/-- BASE[o] (R148). Every byte has a cell of its own in the grid; the default stands for none. -/
def baseEntry (o : Byte) : BaseEntry :=
  (baseGrid.getD (o.toNat / 16) []).getD (o.toNat % 16) (.op (.illegal o))

/-- The extended table's row 0x (R111). -/
def extRow0 : List Instr := [
    .rlcB, .rlcC, .rlcD, .rlcE, .rlcH, .rlcL, .rlcMemHl, .rlcA, .rrcB, .rrcC, .rrcD, .rrcE, .rrcH, .rrcL, .rrcMemHl,
    .rrcA]

/-- The extended table's row 1x (R111). -/
def extRow1 : List Instr := [
    .rlB, .rlC, .rlD, .rlE, .rlH, .rlL, .rlMemHl, .rlA, .rrB, .rrC, .rrD, .rrE, .rrH, .rrL, .rrMemHl, .rrA]

/-- The extended table's row 2x (R111). -/
def extRow2 : List Instr := [
    .slaB, .slaC, .slaD, .slaE, .slaH, .slaL, .slaMemHl, .slaA, .sraB, .sraC, .sraD, .sraE, .sraH, .sraL, .sraMemHl,
    .sraA]

/-- The extended table's row 3x (R111). -/
def extRow3 : List Instr := [
    .swapB, .swapC, .swapD, .swapE, .swapH, .swapL, .swapMemHl, .swapA, .srlB, .srlC, .srlD, .srlE, .srlH, .srlL,
    .srlMemHl, .srlA]

/-- The extended table's row 4x (R111). -/
def extRow4 : List Instr := [
    .bit0B, .bit0C, .bit0D, .bit0E, .bit0H, .bit0L, .bit0MemHl, .bit0A, .bit1B, .bit1C, .bit1D, .bit1E, .bit1H, .bit1L,
    .bit1MemHl, .bit1A]

/-- The extended table's row 5x (R111). -/
def extRow5 : List Instr := [
    .bit2B, .bit2C, .bit2D, .bit2E, .bit2H, .bit2L, .bit2MemHl, .bit2A, .bit3B, .bit3C, .bit3D, .bit3E, .bit3H, .bit3L,
    .bit3MemHl, .bit3A]

/-- The extended table's row 6x (R111). -/
def extRow6 : List Instr := [
    .bit4B, .bit4C, .bit4D, .bit4E, .bit4H, .bit4L, .bit4MemHl, .bit4A, .bit5B, .bit5C, .bit5D, .bit5E, .bit5H, .bit5L,
    .bit5MemHl, .bit5A]

/-- The extended table's row 7x (R111). -/
def extRow7 : List Instr := [
    .bit6B, .bit6C, .bit6D, .bit6E, .bit6H, .bit6L, .bit6MemHl, .bit6A, .bit7B, .bit7C, .bit7D, .bit7E, .bit7H, .bit7L,
    .bit7MemHl, .bit7A]

/-- The extended table's row 8x (R111). -/
def extRow8 : List Instr := [
    .res0B, .res0C, .res0D, .res0E, .res0H, .res0L, .res0MemHl, .res0A, .res1B, .res1C, .res1D, .res1E, .res1H, .res1L,
    .res1MemHl, .res1A]

/-- The extended table's row 9x (R111). -/
def extRow9 : List Instr := [
    .res2B, .res2C, .res2D, .res2E, .res2H, .res2L, .res2MemHl, .res2A, .res3B, .res3C, .res3D, .res3E, .res3H, .res3L,
    .res3MemHl, .res3A]

/-- The extended table's row Ax (R111). -/
def extRowA : List Instr := [
    .res4B, .res4C, .res4D, .res4E, .res4H, .res4L, .res4MemHl, .res4A, .res5B, .res5C, .res5D, .res5E, .res5H, .res5L,
    .res5MemHl, .res5A]

/-- The extended table's row Bx (R111). -/
def extRowB : List Instr := [
    .res6B, .res6C, .res6D, .res6E, .res6H, .res6L, .res6MemHl, .res6A, .res7B, .res7C, .res7D, .res7E, .res7H, .res7L,
    .res7MemHl, .res7A]

/-- The extended table's row Cx (R111). -/
def extRowC : List Instr := [
    .set0B, .set0C, .set0D, .set0E, .set0H, .set0L, .set0MemHl, .set0A, .set1B, .set1C, .set1D, .set1E, .set1H, .set1L,
    .set1MemHl, .set1A]

/-- The extended table's row Dx (R111). -/
def extRowD : List Instr := [
    .set2B, .set2C, .set2D, .set2E, .set2H, .set2L, .set2MemHl, .set2A, .set3B, .set3C, .set3D, .set3E, .set3H, .set3L,
    .set3MemHl, .set3A]

/-- The extended table's row Ex (R111). -/
def extRowE : List Instr := [
    .set4B, .set4C, .set4D, .set4E, .set4H, .set4L, .set4MemHl, .set4A, .set5B, .set5C, .set5D, .set5E, .set5H, .set5L,
    .set5MemHl, .set5A]

/-- The extended table's row Fx (R111). -/
def extRowF : List Instr := [
    .set6B, .set6C, .set6D, .set6E, .set6H, .set6L, .set6MemHl, .set6A, .set7B, .set7C, .set7D, .set7E, .set7H, .set7L,
    .set7MemHl, .set7A]

/-- The extended table (R111): its rows by high nibble. -/
def extGrid : List (List Instr) := [
    extRow0, extRow1, extRow2, extRow3, extRow4, extRow5, extRow6, extRow7, extRow8, extRow9, extRowA, extRowB,
    extRowC, extRowD, extRowE, extRowF]

/-- CB[o] (R149). Every byte has a cell of its own in the grid; the default stands for none. -/
def extEntry (o : Byte) : Instr :=
  (extGrid.getD (o.toNat / 16) []).getD (o.toNat % 16) (.prefixCb o)

/-- The length in bytes of an instruction, from its first byte alone (R114). -/
def lengthOf (o : Byte) : Nat :=
  match baseEntry o with
  | .op _ => 1
  | .n8 _ => 2
  | .n16 _ => 3
  | .extended => 2

/-- Why bytes are not decoded. -/
inductive DecodeError where
  /-- There is no byte. -/
  | noBytes
  /-- The bytes end before the instruction with this first byte does. -/
  | truncated (o : Byte)
  deriving DecidableEq, Repr

/-- Decode one instruction from a list of bytes, lowest address first, with the bytes after it (R114). -/
def decode : List Byte → Except DecodeError (Instr × List Byte)
  | [] => .error .noBytes
  | o :: bytes =>
    match baseEntry o, bytes with
    | .op i, rest => .ok (i, rest)
    | .n8 mk, n :: rest => .ok (mk n, rest)
    | .n16 mk, lo :: hi :: rest => .ok (mk (wordOf hi lo), rest)
    | .extended, p :: rest => .ok (extEntry p, rest)
    | .n8 _, [] => .error (.truncated o)
    | .n16 _, [] => .error (.truncated o)
    | .n16 _, [_] => .error (.truncated o)
    | .extended, [] => .error (.truncated o)

/-- The bytes of a 3-byte instruction: the opcode, then the immediate low byte first (R102, R106). -/
def encodeN16 (o : Byte) (nn : Word) : List Byte := [o, loByte nn, hiByte nn]

/-- The bytes of an instruction, lowest address first (R102). -/
def encode : Instr → List Byte
  | .ldBcN16 nn => encodeN16 0x01 nn
  | .ldBN8 n => [0x06, n]
  | .ldMemN16Sp nn => encodeN16 0x08 nn
  | .ldCN8 n => [0x0E, n]
  | .stop x => [0x10, x]
  | .ldDeN16 nn => encodeN16 0x11 nn
  | .ldDN8 n => [0x16, n]
  | .jrE8 e => [0x18, e]
  | .ldEN8 n => [0x1E, n]
  | .jrNzE8 e => [0x20, e]
  | .ldHlN16 nn => encodeN16 0x21 nn
  | .ldHN8 n => [0x26, n]
  | .jrZE8 e => [0x28, e]
  | .ldLN8 n => [0x2E, n]
  | .jrNcE8 e => [0x30, e]
  | .ldSpN16 nn => encodeN16 0x31 nn
  | .ldMemHlN8 n => [0x36, n]
  | .jrCE8 e => [0x38, e]
  | .ldAN8 n => [0x3E, n]
  | .jpNzN16 nn => encodeN16 0xC2 nn
  | .jpN16 nn => encodeN16 0xC3 nn
  | .callNzN16 nn => encodeN16 0xC4 nn
  | .addAN8 n => [0xC6, n]
  | .jpZN16 nn => encodeN16 0xCA nn
  | .prefixCb p => [0xCB, p]
  | .callZN16 nn => encodeN16 0xCC nn
  | .callN16 nn => encodeN16 0xCD nn
  | .adcAN8 n => [0xCE, n]
  | .jpNcN16 nn => encodeN16 0xD2 nn
  | .illegal o => [o]
  | .callNcN16 nn => encodeN16 0xD4 nn
  | .subN8 n => [0xD6, n]
  | .jpCN16 nn => encodeN16 0xDA nn
  | .callCN16 nn => encodeN16 0xDC nn
  | .sbcAN8 n => [0xDE, n]
  | .ldhMemN8A n => [0xE0, n]
  | .andN8 n => [0xE6, n]
  | .addSpE8 e => [0xE8, e]
  | .ldMemN16A nn => encodeN16 0xEA nn
  | .xorN8 n => [0xEE, n]
  | .ldhAMemN8 n => [0xF0, n]
  | .orN8 n => [0xF6, n]
  | .ldHlSpE8 e => [0xF8, e]
  | .ldAMemN16 nn => encodeN16 0xFA nn
  | .cpN8 n => [0xFE, n]
  | .nop => [0x00]
  | .ldMemBcA => [0x02]
  | .incBc => [0x03]
  | .incB => [0x04]
  | .decB => [0x05]
  | .rlca => [0x07]
  | .addHlBc => [0x09]
  | .ldAMemBc => [0x0A]
  | .decBc => [0x0B]
  | .incC => [0x0C]
  | .decC => [0x0D]
  | .rrca => [0x0F]
  | .ldMemDeA => [0x12]
  | .incDe => [0x13]
  | .incD => [0x14]
  | .decD => [0x15]
  | .rla => [0x17]
  | .addHlDe => [0x19]
  | .ldAMemDe => [0x1A]
  | .decDe => [0x1B]
  | .incE => [0x1C]
  | .decE => [0x1D]
  | .rra => [0x1F]
  | .ldMemHlIncA => [0x22]
  | .incHl => [0x23]
  | .incH => [0x24]
  | .decH => [0x25]
  | .daa => [0x27]
  | .addHlHl => [0x29]
  | .ldAMemHlInc => [0x2A]
  | .decHl => [0x2B]
  | .incL => [0x2C]
  | .decL => [0x2D]
  | .cpl => [0x2F]
  | .ldMemHlDecA => [0x32]
  | .incSp => [0x33]
  | .incMemHl => [0x34]
  | .decMemHl => [0x35]
  | .scf => [0x37]
  | .addHlSp => [0x39]
  | .ldAMemHlDec => [0x3A]
  | .decSp => [0x3B]
  | .incA => [0x3C]
  | .decA => [0x3D]
  | .ccf => [0x3F]
  | .ldBB => [0x40]
  | .ldBC => [0x41]
  | .ldBD => [0x42]
  | .ldBE => [0x43]
  | .ldBH => [0x44]
  | .ldBL => [0x45]
  | .ldBMemHl => [0x46]
  | .ldBA => [0x47]
  | .ldCB => [0x48]
  | .ldCC => [0x49]
  | .ldCD => [0x4A]
  | .ldCE => [0x4B]
  | .ldCH => [0x4C]
  | .ldCL => [0x4D]
  | .ldCMemHl => [0x4E]
  | .ldCA => [0x4F]
  | .ldDB => [0x50]
  | .ldDC => [0x51]
  | .ldDD => [0x52]
  | .ldDE => [0x53]
  | .ldDH => [0x54]
  | .ldDL => [0x55]
  | .ldDMemHl => [0x56]
  | .ldDA => [0x57]
  | .ldEB => [0x58]
  | .ldEC => [0x59]
  | .ldED => [0x5A]
  | .ldEE => [0x5B]
  | .ldEH => [0x5C]
  | .ldEL => [0x5D]
  | .ldEMemHl => [0x5E]
  | .ldEA => [0x5F]
  | .ldHB => [0x60]
  | .ldHC => [0x61]
  | .ldHD => [0x62]
  | .ldHE => [0x63]
  | .ldHH => [0x64]
  | .ldHL => [0x65]
  | .ldHMemHl => [0x66]
  | .ldHA => [0x67]
  | .ldLB => [0x68]
  | .ldLC => [0x69]
  | .ldLD => [0x6A]
  | .ldLE => [0x6B]
  | .ldLH => [0x6C]
  | .ldLL => [0x6D]
  | .ldLMemHl => [0x6E]
  | .ldLA => [0x6F]
  | .ldMemHlB => [0x70]
  | .ldMemHlC => [0x71]
  | .ldMemHlD => [0x72]
  | .ldMemHlE => [0x73]
  | .ldMemHlH => [0x74]
  | .ldMemHlL => [0x75]
  | .halt => [0x76]
  | .ldMemHlA => [0x77]
  | .ldAB => [0x78]
  | .ldAC => [0x79]
  | .ldAD => [0x7A]
  | .ldAE => [0x7B]
  | .ldAH => [0x7C]
  | .ldAL => [0x7D]
  | .ldAMemHl => [0x7E]
  | .ldAA => [0x7F]
  | .addAB => [0x80]
  | .addAC => [0x81]
  | .addAD => [0x82]
  | .addAE => [0x83]
  | .addAH => [0x84]
  | .addAL => [0x85]
  | .addAMemHl => [0x86]
  | .addAA => [0x87]
  | .adcAB => [0x88]
  | .adcAC => [0x89]
  | .adcAD => [0x8A]
  | .adcAE => [0x8B]
  | .adcAH => [0x8C]
  | .adcAL => [0x8D]
  | .adcAMemHl => [0x8E]
  | .adcAA => [0x8F]
  | .subB => [0x90]
  | .subC => [0x91]
  | .subD => [0x92]
  | .subE => [0x93]
  | .subH => [0x94]
  | .subL => [0x95]
  | .subMemHl => [0x96]
  | .subA => [0x97]
  | .sbcAB => [0x98]
  | .sbcAC => [0x99]
  | .sbcAD => [0x9A]
  | .sbcAE => [0x9B]
  | .sbcAH => [0x9C]
  | .sbcAL => [0x9D]
  | .sbcAMemHl => [0x9E]
  | .sbcAA => [0x9F]
  | .andB => [0xA0]
  | .andC => [0xA1]
  | .andD => [0xA2]
  | .andE => [0xA3]
  | .andH => [0xA4]
  | .andL => [0xA5]
  | .andMemHl => [0xA6]
  | .andA => [0xA7]
  | .xorB => [0xA8]
  | .xorC => [0xA9]
  | .xorD => [0xAA]
  | .xorE => [0xAB]
  | .xorH => [0xAC]
  | .xorL => [0xAD]
  | .xorMemHl => [0xAE]
  | .xorA => [0xAF]
  | .orB => [0xB0]
  | .orC => [0xB1]
  | .orD => [0xB2]
  | .orE => [0xB3]
  | .orH => [0xB4]
  | .orL => [0xB5]
  | .orMemHl => [0xB6]
  | .orA => [0xB7]
  | .cpB => [0xB8]
  | .cpC => [0xB9]
  | .cpD => [0xBA]
  | .cpE => [0xBB]
  | .cpH => [0xBC]
  | .cpL => [0xBD]
  | .cpMemHl => [0xBE]
  | .cpA => [0xBF]
  | .retNz => [0xC0]
  | .popBc => [0xC1]
  | .pushBc => [0xC5]
  | .rst00 => [0xC7]
  | .retZ => [0xC8]
  | .ret => [0xC9]
  | .rst08 => [0xCF]
  | .retNc => [0xD0]
  | .popDe => [0xD1]
  | .pushDe => [0xD5]
  | .rst10 => [0xD7]
  | .retC => [0xD8]
  | .reti => [0xD9]
  | .rst18 => [0xDF]
  | .popHl => [0xE1]
  | .ldMemCA => [0xE2]
  | .pushHl => [0xE5]
  | .rst20 => [0xE7]
  | .jpHl => [0xE9]
  | .rst28 => [0xEF]
  | .popAf => [0xF1]
  | .ldAMemC => [0xF2]
  | .di => [0xF3]
  | .pushAf => [0xF5]
  | .rst30 => [0xF7]
  | .ldSpHl => [0xF9]
  | .ei => [0xFB]
  | .rst38 => [0xFF]
  | .rlcB => [0xCB, 0x00]
  | .rlcC => [0xCB, 0x01]
  | .rlcD => [0xCB, 0x02]
  | .rlcE => [0xCB, 0x03]
  | .rlcH => [0xCB, 0x04]
  | .rlcL => [0xCB, 0x05]
  | .rlcMemHl => [0xCB, 0x06]
  | .rlcA => [0xCB, 0x07]
  | .rrcB => [0xCB, 0x08]
  | .rrcC => [0xCB, 0x09]
  | .rrcD => [0xCB, 0x0A]
  | .rrcE => [0xCB, 0x0B]
  | .rrcH => [0xCB, 0x0C]
  | .rrcL => [0xCB, 0x0D]
  | .rrcMemHl => [0xCB, 0x0E]
  | .rrcA => [0xCB, 0x0F]
  | .rlB => [0xCB, 0x10]
  | .rlC => [0xCB, 0x11]
  | .rlD => [0xCB, 0x12]
  | .rlE => [0xCB, 0x13]
  | .rlH => [0xCB, 0x14]
  | .rlL => [0xCB, 0x15]
  | .rlMemHl => [0xCB, 0x16]
  | .rlA => [0xCB, 0x17]
  | .rrB => [0xCB, 0x18]
  | .rrC => [0xCB, 0x19]
  | .rrD => [0xCB, 0x1A]
  | .rrE => [0xCB, 0x1B]
  | .rrH => [0xCB, 0x1C]
  | .rrL => [0xCB, 0x1D]
  | .rrMemHl => [0xCB, 0x1E]
  | .rrA => [0xCB, 0x1F]
  | .slaB => [0xCB, 0x20]
  | .slaC => [0xCB, 0x21]
  | .slaD => [0xCB, 0x22]
  | .slaE => [0xCB, 0x23]
  | .slaH => [0xCB, 0x24]
  | .slaL => [0xCB, 0x25]
  | .slaMemHl => [0xCB, 0x26]
  | .slaA => [0xCB, 0x27]
  | .sraB => [0xCB, 0x28]
  | .sraC => [0xCB, 0x29]
  | .sraD => [0xCB, 0x2A]
  | .sraE => [0xCB, 0x2B]
  | .sraH => [0xCB, 0x2C]
  | .sraL => [0xCB, 0x2D]
  | .sraMemHl => [0xCB, 0x2E]
  | .sraA => [0xCB, 0x2F]
  | .swapB => [0xCB, 0x30]
  | .swapC => [0xCB, 0x31]
  | .swapD => [0xCB, 0x32]
  | .swapE => [0xCB, 0x33]
  | .swapH => [0xCB, 0x34]
  | .swapL => [0xCB, 0x35]
  | .swapMemHl => [0xCB, 0x36]
  | .swapA => [0xCB, 0x37]
  | .srlB => [0xCB, 0x38]
  | .srlC => [0xCB, 0x39]
  | .srlD => [0xCB, 0x3A]
  | .srlE => [0xCB, 0x3B]
  | .srlH => [0xCB, 0x3C]
  | .srlL => [0xCB, 0x3D]
  | .srlMemHl => [0xCB, 0x3E]
  | .srlA => [0xCB, 0x3F]
  | .bit0B => [0xCB, 0x40]
  | .bit0C => [0xCB, 0x41]
  | .bit0D => [0xCB, 0x42]
  | .bit0E => [0xCB, 0x43]
  | .bit0H => [0xCB, 0x44]
  | .bit0L => [0xCB, 0x45]
  | .bit0MemHl => [0xCB, 0x46]
  | .bit0A => [0xCB, 0x47]
  | .bit1B => [0xCB, 0x48]
  | .bit1C => [0xCB, 0x49]
  | .bit1D => [0xCB, 0x4A]
  | .bit1E => [0xCB, 0x4B]
  | .bit1H => [0xCB, 0x4C]
  | .bit1L => [0xCB, 0x4D]
  | .bit1MemHl => [0xCB, 0x4E]
  | .bit1A => [0xCB, 0x4F]
  | .bit2B => [0xCB, 0x50]
  | .bit2C => [0xCB, 0x51]
  | .bit2D => [0xCB, 0x52]
  | .bit2E => [0xCB, 0x53]
  | .bit2H => [0xCB, 0x54]
  | .bit2L => [0xCB, 0x55]
  | .bit2MemHl => [0xCB, 0x56]
  | .bit2A => [0xCB, 0x57]
  | .bit3B => [0xCB, 0x58]
  | .bit3C => [0xCB, 0x59]
  | .bit3D => [0xCB, 0x5A]
  | .bit3E => [0xCB, 0x5B]
  | .bit3H => [0xCB, 0x5C]
  | .bit3L => [0xCB, 0x5D]
  | .bit3MemHl => [0xCB, 0x5E]
  | .bit3A => [0xCB, 0x5F]
  | .bit4B => [0xCB, 0x60]
  | .bit4C => [0xCB, 0x61]
  | .bit4D => [0xCB, 0x62]
  | .bit4E => [0xCB, 0x63]
  | .bit4H => [0xCB, 0x64]
  | .bit4L => [0xCB, 0x65]
  | .bit4MemHl => [0xCB, 0x66]
  | .bit4A => [0xCB, 0x67]
  | .bit5B => [0xCB, 0x68]
  | .bit5C => [0xCB, 0x69]
  | .bit5D => [0xCB, 0x6A]
  | .bit5E => [0xCB, 0x6B]
  | .bit5H => [0xCB, 0x6C]
  | .bit5L => [0xCB, 0x6D]
  | .bit5MemHl => [0xCB, 0x6E]
  | .bit5A => [0xCB, 0x6F]
  | .bit6B => [0xCB, 0x70]
  | .bit6C => [0xCB, 0x71]
  | .bit6D => [0xCB, 0x72]
  | .bit6E => [0xCB, 0x73]
  | .bit6H => [0xCB, 0x74]
  | .bit6L => [0xCB, 0x75]
  | .bit6MemHl => [0xCB, 0x76]
  | .bit6A => [0xCB, 0x77]
  | .bit7B => [0xCB, 0x78]
  | .bit7C => [0xCB, 0x79]
  | .bit7D => [0xCB, 0x7A]
  | .bit7E => [0xCB, 0x7B]
  | .bit7H => [0xCB, 0x7C]
  | .bit7L => [0xCB, 0x7D]
  | .bit7MemHl => [0xCB, 0x7E]
  | .bit7A => [0xCB, 0x7F]
  | .res0B => [0xCB, 0x80]
  | .res0C => [0xCB, 0x81]
  | .res0D => [0xCB, 0x82]
  | .res0E => [0xCB, 0x83]
  | .res0H => [0xCB, 0x84]
  | .res0L => [0xCB, 0x85]
  | .res0MemHl => [0xCB, 0x86]
  | .res0A => [0xCB, 0x87]
  | .res1B => [0xCB, 0x88]
  | .res1C => [0xCB, 0x89]
  | .res1D => [0xCB, 0x8A]
  | .res1E => [0xCB, 0x8B]
  | .res1H => [0xCB, 0x8C]
  | .res1L => [0xCB, 0x8D]
  | .res1MemHl => [0xCB, 0x8E]
  | .res1A => [0xCB, 0x8F]
  | .res2B => [0xCB, 0x90]
  | .res2C => [0xCB, 0x91]
  | .res2D => [0xCB, 0x92]
  | .res2E => [0xCB, 0x93]
  | .res2H => [0xCB, 0x94]
  | .res2L => [0xCB, 0x95]
  | .res2MemHl => [0xCB, 0x96]
  | .res2A => [0xCB, 0x97]
  | .res3B => [0xCB, 0x98]
  | .res3C => [0xCB, 0x99]
  | .res3D => [0xCB, 0x9A]
  | .res3E => [0xCB, 0x9B]
  | .res3H => [0xCB, 0x9C]
  | .res3L => [0xCB, 0x9D]
  | .res3MemHl => [0xCB, 0x9E]
  | .res3A => [0xCB, 0x9F]
  | .res4B => [0xCB, 0xA0]
  | .res4C => [0xCB, 0xA1]
  | .res4D => [0xCB, 0xA2]
  | .res4E => [0xCB, 0xA3]
  | .res4H => [0xCB, 0xA4]
  | .res4L => [0xCB, 0xA5]
  | .res4MemHl => [0xCB, 0xA6]
  | .res4A => [0xCB, 0xA7]
  | .res5B => [0xCB, 0xA8]
  | .res5C => [0xCB, 0xA9]
  | .res5D => [0xCB, 0xAA]
  | .res5E => [0xCB, 0xAB]
  | .res5H => [0xCB, 0xAC]
  | .res5L => [0xCB, 0xAD]
  | .res5MemHl => [0xCB, 0xAE]
  | .res5A => [0xCB, 0xAF]
  | .res6B => [0xCB, 0xB0]
  | .res6C => [0xCB, 0xB1]
  | .res6D => [0xCB, 0xB2]
  | .res6E => [0xCB, 0xB3]
  | .res6H => [0xCB, 0xB4]
  | .res6L => [0xCB, 0xB5]
  | .res6MemHl => [0xCB, 0xB6]
  | .res6A => [0xCB, 0xB7]
  | .res7B => [0xCB, 0xB8]
  | .res7C => [0xCB, 0xB9]
  | .res7D => [0xCB, 0xBA]
  | .res7E => [0xCB, 0xBB]
  | .res7H => [0xCB, 0xBC]
  | .res7L => [0xCB, 0xBD]
  | .res7MemHl => [0xCB, 0xBE]
  | .res7A => [0xCB, 0xBF]
  | .set0B => [0xCB, 0xC0]
  | .set0C => [0xCB, 0xC1]
  | .set0D => [0xCB, 0xC2]
  | .set0E => [0xCB, 0xC3]
  | .set0H => [0xCB, 0xC4]
  | .set0L => [0xCB, 0xC5]
  | .set0MemHl => [0xCB, 0xC6]
  | .set0A => [0xCB, 0xC7]
  | .set1B => [0xCB, 0xC8]
  | .set1C => [0xCB, 0xC9]
  | .set1D => [0xCB, 0xCA]
  | .set1E => [0xCB, 0xCB]
  | .set1H => [0xCB, 0xCC]
  | .set1L => [0xCB, 0xCD]
  | .set1MemHl => [0xCB, 0xCE]
  | .set1A => [0xCB, 0xCF]
  | .set2B => [0xCB, 0xD0]
  | .set2C => [0xCB, 0xD1]
  | .set2D => [0xCB, 0xD2]
  | .set2E => [0xCB, 0xD3]
  | .set2H => [0xCB, 0xD4]
  | .set2L => [0xCB, 0xD5]
  | .set2MemHl => [0xCB, 0xD6]
  | .set2A => [0xCB, 0xD7]
  | .set3B => [0xCB, 0xD8]
  | .set3C => [0xCB, 0xD9]
  | .set3D => [0xCB, 0xDA]
  | .set3E => [0xCB, 0xDB]
  | .set3H => [0xCB, 0xDC]
  | .set3L => [0xCB, 0xDD]
  | .set3MemHl => [0xCB, 0xDE]
  | .set3A => [0xCB, 0xDF]
  | .set4B => [0xCB, 0xE0]
  | .set4C => [0xCB, 0xE1]
  | .set4D => [0xCB, 0xE2]
  | .set4E => [0xCB, 0xE3]
  | .set4H => [0xCB, 0xE4]
  | .set4L => [0xCB, 0xE5]
  | .set4MemHl => [0xCB, 0xE6]
  | .set4A => [0xCB, 0xE7]
  | .set5B => [0xCB, 0xE8]
  | .set5C => [0xCB, 0xE9]
  | .set5D => [0xCB, 0xEA]
  | .set5E => [0xCB, 0xEB]
  | .set5H => [0xCB, 0xEC]
  | .set5L => [0xCB, 0xED]
  | .set5MemHl => [0xCB, 0xEE]
  | .set5A => [0xCB, 0xEF]
  | .set6B => [0xCB, 0xF0]
  | .set6C => [0xCB, 0xF1]
  | .set6D => [0xCB, 0xF2]
  | .set6E => [0xCB, 0xF3]
  | .set6H => [0xCB, 0xF4]
  | .set6L => [0xCB, 0xF5]
  | .set6MemHl => [0xCB, 0xF6]
  | .set6A => [0xCB, 0xF7]
  | .set7B => [0xCB, 0xF8]
  | .set7C => [0xCB, 0xF9]
  | .set7D => [0xCB, 0xFA]
  | .set7E => [0xCB, 0xFB]
  | .set7H => [0xCB, 0xFC]
  | .set7L => [0xCB, 0xFD]
  | .set7MemHl => [0xCB, 0xFE]
  | .set7A => [0xCB, 0xFF]

/-- The three bytes a table word stands for, lowest address first, zeros above nbits. The table numbers an extended row's two bytes
with the prefix in bits 15:8, and everything else from the first byte up (notes/assumptions/8.md). -/
def tableBytes (nbits w : Nat) : List Byte :=
  let v := w % 2 ^ nbits
  let b0 := BitVec.ofNat 8 v
  let b1 := BitVec.ofNat 8 (v / 256)
  let b2 := BitVec.ofNat 8 (v / 65536)
  if nbits = 16 ∧ b1 = 0xCB then [b1, b0, 0x00] else [b0, b1, b2]

/-- The instruction the decoder reads from a word of spec/opcode_table.json. -/
def decodeTableWord (nbits w : Nat) : Option Instr :=
  match decode (tableBytes nbits w) with
  | .ok (i, _) => some i
  | .error _ => none

end Sys2Proof
end

