-- ==== Sys2Proof/Machine/Fetch.lean ====
section
/-! DEFINITION. The dispatcher's phases (spec/40_dispatcher.md R141 to R147, R153), with the execution of an instruction as an
argument; Machine/Step.lean gives them exec. -/

namespace Sys2Proof.Machine

/-- Phase 4 (R145, R146, R147): fetch the opcode byte, then the prefix's second byte or the immediate bytes in increasing address
order, and run the instruction they name. -/
def fetchExecute (run : Instr → State → Out) (s : State) : Out :=
  withFetch { s with pcStart := s.pc } fun o s1 =>
    match baseEntry o with
    | .op i => run i s1
    | .n8 mk => withFetch s1 fun n s2 => run (mk n) s2
    | .n16 mk => withFetch s1 fun lo s2 => withFetch s2 fun hi s3 => run (mk (wordOf hi lo)) s3
    | .extended => withFetch s1 fun p s2 => run (extEntry p) s2

/-- A step begins: the outputs of the last one are cleared, its transactions join the earlier ones, and the step is counted. -/
def State.beginStep (s : State) : State :=
  { s with cycles := 0, trace := [], past := s.past ++ s.trace, steps := s.steps + 1 }

/-- Whether phase 1 services an interrupt (R142): IME is set and a source is pending. -/
def State.takesInterrupt (s : State) : Bool := s.ime && s.pending != 0

/-- Phase 1 without a service (R142): a pending source ends the halted state, whatever IME is. -/
def State.wake (s : State) : State := if s.pending ≠ 0 then { s with halted := false } else s

/-- Phase 3 (R144): a pending enable takes effect before the fetch. -/
def State.latchEnable (s : State) : State :=
  if s.eiPending then { s with ime := true, eiPending := false } else s

/-- The phases of a step from a state with no fault (R153): stopped idle, interrupt service, halted idle, or one instruction. -/
def runPhases (run : Instr → State → Out) (s : State) : Out :=
  if s.stopped then done 4 s
  else if s.takesInterrupt then service s
  else if s.wake.halted then done 4 s.wake
  else fetchExecute run s.wake.latchEnable

/-- Store a byte where a fetch at address a reads it: in the core's own storage, or as the last of a collaborator's promised answers. A
stub or unmapped address has no such place. -/
def State.placeByte (s : State) (a : Word) (v : Byte) : State :=
  match region s.params a with
  | .workRam => { s with ram := s.ram.write (ramAddr .workRam a) v }
  | .echo => { s with ram := s.ram.write (ramAddr .echo a) v }
  | .highRam => { s with ram := s.ram.write (ramAddr .highRam a) v }
  | .interruptFlag => { s with ifReg := v }
  | .interruptEnable => { s with ieReg := v }
  | .cartridge => { s with answers := { s.answers with cartridge := s.answers.cartridge ++ [v] } }
  | .video => { s with answers := { s.answers with video := s.answers.video ++ [v] } }
  | .serialStub => s
  | .soundStub => s
  | .unmapped => s

/-- Store a run of bytes at consecutive addresses from a. -/
def State.placeBytes (s : State) : Word → List Byte → State
  | _, [] => s
  | a, v :: vs => (s.placeByte a v).placeBytes (a + 1) vs

/-- Nothing keeps the next step from fetching: no fault, not stopped or halted, no scheduled host move, and no interrupt taken; and no
answer is promised yet, so that the next one promised is the fetch's. -/
def State.readyToFetch (s : State) : State :=
  { s with
    faulted := none
    stopped := false
    halted := false
    inbox := []
    answers := {}
    ifReg := if s.takesInterrupt then s.ifReg &&& 0xE0 else s.ifReg }

end Sys2Proof.Machine
end

