-- ==== Sys2Proof/Machine/Step.lean ====
section
/-! DEFINITION. One step of the machine (spec/40_dispatcher.md R140, R153). -/

namespace Sys2Proof.Machine

/-- One step (R153). After a fatal fault there is none (R140). The host's moves scheduled before this step come first (R430). -/
def step (s : State) : Host.Outcome State Fault Refusal :=
  match s.faulted with
  | some r => .fault (.noFurtherStep r)
  | none => runPhases exec s.takeInbox.beginStep

/-- s with a table word's instruction, its own bytes and no more, where the next step fetches it (notes/assumptions/8.md, 9.md). -/
def State.withFetchWord (s : State) (nbits w : Nat) : State :=
  let bytes := Sys2Proof.tableBytes nbits w
  s.readyToFetch.placeBytes s.pc (bytes.take (Sys2Proof.lengthOf (bytes.headD 0x00)))

end Sys2Proof.Machine
end

