-- ==== Sys2Proof/Forms.lean ====
section
/-! DEFINITION. Instructions by form: each function below names, for the operands of one form of spec/41 to spec/47, the constructor
of Instr that stands for them, so that a statement can speak of a form as the spec's rules do. -/

namespace Sys2Proof.Forms

/-- ADD, ADC, SUB, SBC, AND, XOR, OR or CP with a register. -/
def aluReg : AluOp → Reg8 → Instr
  | .add, .b => .addAB
  | .add, .c => .addAC
  | .add, .d => .addAD
  | .add, .e => .addAE
  | .add, .h => .addAH
  | .add, .l => .addAL
  | .add, .a => .addAA
  | .adc, .b => .adcAB
  | .adc, .c => .adcAC
  | .adc, .d => .adcAD
  | .adc, .e => .adcAE
  | .adc, .h => .adcAH
  | .adc, .l => .adcAL
  | .adc, .a => .adcAA
  | .sub, .b => .subB
  | .sub, .c => .subC
  | .sub, .d => .subD
  | .sub, .e => .subE
  | .sub, .h => .subH
  | .sub, .l => .subL
  | .sub, .a => .subA
  | .sbc, .b => .sbcAB
  | .sbc, .c => .sbcAC
  | .sbc, .d => .sbcAD
  | .sbc, .e => .sbcAE
  | .sbc, .h => .sbcAH
  | .sbc, .l => .sbcAL
  | .sbc, .a => .sbcAA
  | .and, .b => .andB
  | .and, .c => .andC
  | .and, .d => .andD
  | .and, .e => .andE
  | .and, .h => .andH
  | .and, .l => .andL
  | .and, .a => .andA
  | .xor, .b => .xorB
  | .xor, .c => .xorC
  | .xor, .d => .xorD
  | .xor, .e => .xorE
  | .xor, .h => .xorH
  | .xor, .l => .xorL
  | .xor, .a => .xorA
  | .or, .b => .orB
  | .or, .c => .orC
  | .or, .d => .orD
  | .or, .e => .orE
  | .or, .h => .orH
  | .or, .l => .orL
  | .or, .a => .orA
  | .cp, .b => .cpB
  | .cp, .c => .cpC
  | .cp, .d => .cpD
  | .cp, .e => .cpE
  | .cp, .h => .cpH
  | .cp, .l => .cpL
  | .cp, .a => .cpA

/-- ADD, ADC, SUB, SBC, AND, XOR, OR or CP with the byte at HL. -/
def aluMem : AluOp → Instr
  | .add => .addAMemHl
  | .adc => .adcAMemHl
  | .sub => .subMemHl
  | .sbc => .sbcAMemHl
  | .and => .andMemHl
  | .xor => .xorMemHl
  | .or => .orMemHl
  | .cp => .cpMemHl

/-- ADD, ADC, SUB, SBC, AND, XOR, OR or CP with an immediate byte. -/
def aluImm : AluOp → Byte → Instr
  | .add, n => .addAN8 n
  | .adc, n => .adcAN8 n
  | .sub, n => .subN8 n
  | .sbc, n => .sbcAN8 n
  | .and, n => .andN8 n
  | .xor, n => .xorN8 n
  | .or, n => .orN8 n
  | .cp, n => .cpN8 n

/-- INC r. -/
def incReg : Reg8 → Instr
  | .b => .incB
  | .c => .incC
  | .d => .incD
  | .e => .incE
  | .h => .incH
  | .l => .incL
  | .a => .incA

/-- DEC r. -/
def decReg : Reg8 → Instr
  | .b => .decB
  | .c => .decC
  | .d => .decD
  | .e => .decE
  | .h => .decH
  | .l => .decL
  | .a => .decA

/-- INC rr. -/
def incPair : Pair → Instr
  | .bc => .incBc
  | .de => .incDe
  | .hl => .incHl
  | .sp => .incSp

/-- DEC rr. -/
def decPair : Pair → Instr
  | .bc => .decBc
  | .de => .decDe
  | .hl => .decHl
  | .sp => .decSp

/-- ADD HL,rr. -/
def addHl : Pair → Instr
  | .bc => .addHlBc
  | .de => .addHlDe
  | .hl => .addHlHl
  | .sp => .addHlSp

/-- An extended-table rotate or shift of a register. -/
def shiftReg : ShiftOp → Reg8 → Instr
  | .rlc, .b => .rlcB
  | .rlc, .c => .rlcC
  | .rlc, .d => .rlcD
  | .rlc, .e => .rlcE
  | .rlc, .h => .rlcH
  | .rlc, .l => .rlcL
  | .rlc, .a => .rlcA
  | .rrc, .b => .rrcB
  | .rrc, .c => .rrcC
  | .rrc, .d => .rrcD
  | .rrc, .e => .rrcE
  | .rrc, .h => .rrcH
  | .rrc, .l => .rrcL
  | .rrc, .a => .rrcA
  | .rl, .b => .rlB
  | .rl, .c => .rlC
  | .rl, .d => .rlD
  | .rl, .e => .rlE
  | .rl, .h => .rlH
  | .rl, .l => .rlL
  | .rl, .a => .rlA
  | .rr, .b => .rrB
  | .rr, .c => .rrC
  | .rr, .d => .rrD
  | .rr, .e => .rrE
  | .rr, .h => .rrH
  | .rr, .l => .rrL
  | .rr, .a => .rrA
  | .sla, .b => .slaB
  | .sla, .c => .slaC
  | .sla, .d => .slaD
  | .sla, .e => .slaE
  | .sla, .h => .slaH
  | .sla, .l => .slaL
  | .sla, .a => .slaA
  | .sra, .b => .sraB
  | .sra, .c => .sraC
  | .sra, .d => .sraD
  | .sra, .e => .sraE
  | .sra, .h => .sraH
  | .sra, .l => .sraL
  | .sra, .a => .sraA
  | .swap, .b => .swapB
  | .swap, .c => .swapC
  | .swap, .d => .swapD
  | .swap, .e => .swapE
  | .swap, .h => .swapH
  | .swap, .l => .swapL
  | .swap, .a => .swapA
  | .srl, .b => .srlB
  | .srl, .c => .srlC
  | .srl, .d => .srlD
  | .srl, .e => .srlE
  | .srl, .h => .srlH
  | .srl, .l => .srlL
  | .srl, .a => .srlA

/-- An extended-table rotate or shift of the byte at HL. -/
def shiftMem : ShiftOp → Instr
  | .rlc => .rlcMemHl
  | .rrc => .rrcMemHl
  | .rl => .rlMemHl
  | .rr => .rrMemHl
  | .sla => .slaMemHl
  | .sra => .sraMemHl
  | .swap => .swapMemHl
  | .srl => .srlMemHl

/-- BIT b,r. -/
def testBitReg : Fin 8 → Reg8 → Instr
  | 0, .b => .bit0B
  | 0, .c => .bit0C
  | 0, .d => .bit0D
  | 0, .e => .bit0E
  | 0, .h => .bit0H
  | 0, .l => .bit0L
  | 0, .a => .bit0A
  | 1, .b => .bit1B
  | 1, .c => .bit1C
  | 1, .d => .bit1D
  | 1, .e => .bit1E
  | 1, .h => .bit1H
  | 1, .l => .bit1L
  | 1, .a => .bit1A
  | 2, .b => .bit2B
  | 2, .c => .bit2C
  | 2, .d => .bit2D
  | 2, .e => .bit2E
  | 2, .h => .bit2H
  | 2, .l => .bit2L
  | 2, .a => .bit2A
  | 3, .b => .bit3B
  | 3, .c => .bit3C
  | 3, .d => .bit3D
  | 3, .e => .bit3E
  | 3, .h => .bit3H
  | 3, .l => .bit3L
  | 3, .a => .bit3A
  | 4, .b => .bit4B
  | 4, .c => .bit4C
  | 4, .d => .bit4D
  | 4, .e => .bit4E
  | 4, .h => .bit4H
  | 4, .l => .bit4L
  | 4, .a => .bit4A
  | 5, .b => .bit5B
  | 5, .c => .bit5C
  | 5, .d => .bit5D
  | 5, .e => .bit5E
  | 5, .h => .bit5H
  | 5, .l => .bit5L
  | 5, .a => .bit5A
  | 6, .b => .bit6B
  | 6, .c => .bit6C
  | 6, .d => .bit6D
  | 6, .e => .bit6E
  | 6, .h => .bit6H
  | 6, .l => .bit6L
  | 6, .a => .bit6A
  | 7, .b => .bit7B
  | 7, .c => .bit7C
  | 7, .d => .bit7D
  | 7, .e => .bit7E
  | 7, .h => .bit7H
  | 7, .l => .bit7L
  | 7, .a => .bit7A

/-- BIT b,(HL). -/
def testBitMem : Fin 8 → Instr
  | 0 => .bit0MemHl
  | 1 => .bit1MemHl
  | 2 => .bit2MemHl
  | 3 => .bit3MemHl
  | 4 => .bit4MemHl
  | 5 => .bit5MemHl
  | 6 => .bit6MemHl
  | 7 => .bit7MemHl

/-- RES b,r. -/
def clearBitReg : Fin 8 → Reg8 → Instr
  | 0, .b => .res0B
  | 0, .c => .res0C
  | 0, .d => .res0D
  | 0, .e => .res0E
  | 0, .h => .res0H
  | 0, .l => .res0L
  | 0, .a => .res0A
  | 1, .b => .res1B
  | 1, .c => .res1C
  | 1, .d => .res1D
  | 1, .e => .res1E
  | 1, .h => .res1H
  | 1, .l => .res1L
  | 1, .a => .res1A
  | 2, .b => .res2B
  | 2, .c => .res2C
  | 2, .d => .res2D
  | 2, .e => .res2E
  | 2, .h => .res2H
  | 2, .l => .res2L
  | 2, .a => .res2A
  | 3, .b => .res3B
  | 3, .c => .res3C
  | 3, .d => .res3D
  | 3, .e => .res3E
  | 3, .h => .res3H
  | 3, .l => .res3L
  | 3, .a => .res3A
  | 4, .b => .res4B
  | 4, .c => .res4C
  | 4, .d => .res4D
  | 4, .e => .res4E
  | 4, .h => .res4H
  | 4, .l => .res4L
  | 4, .a => .res4A
  | 5, .b => .res5B
  | 5, .c => .res5C
  | 5, .d => .res5D
  | 5, .e => .res5E
  | 5, .h => .res5H
  | 5, .l => .res5L
  | 5, .a => .res5A
  | 6, .b => .res6B
  | 6, .c => .res6C
  | 6, .d => .res6D
  | 6, .e => .res6E
  | 6, .h => .res6H
  | 6, .l => .res6L
  | 6, .a => .res6A
  | 7, .b => .res7B
  | 7, .c => .res7C
  | 7, .d => .res7D
  | 7, .e => .res7E
  | 7, .h => .res7H
  | 7, .l => .res7L
  | 7, .a => .res7A

/-- RES b,(HL). -/
def clearBitMem : Fin 8 → Instr
  | 0 => .res0MemHl
  | 1 => .res1MemHl
  | 2 => .res2MemHl
  | 3 => .res3MemHl
  | 4 => .res4MemHl
  | 5 => .res5MemHl
  | 6 => .res6MemHl
  | 7 => .res7MemHl

/-- SET b,r. -/
def raiseBitReg : Fin 8 → Reg8 → Instr
  | 0, .b => .set0B
  | 0, .c => .set0C
  | 0, .d => .set0D
  | 0, .e => .set0E
  | 0, .h => .set0H
  | 0, .l => .set0L
  | 0, .a => .set0A
  | 1, .b => .set1B
  | 1, .c => .set1C
  | 1, .d => .set1D
  | 1, .e => .set1E
  | 1, .h => .set1H
  | 1, .l => .set1L
  | 1, .a => .set1A
  | 2, .b => .set2B
  | 2, .c => .set2C
  | 2, .d => .set2D
  | 2, .e => .set2E
  | 2, .h => .set2H
  | 2, .l => .set2L
  | 2, .a => .set2A
  | 3, .b => .set3B
  | 3, .c => .set3C
  | 3, .d => .set3D
  | 3, .e => .set3E
  | 3, .h => .set3H
  | 3, .l => .set3L
  | 3, .a => .set3A
  | 4, .b => .set4B
  | 4, .c => .set4C
  | 4, .d => .set4D
  | 4, .e => .set4E
  | 4, .h => .set4H
  | 4, .l => .set4L
  | 4, .a => .set4A
  | 5, .b => .set5B
  | 5, .c => .set5C
  | 5, .d => .set5D
  | 5, .e => .set5E
  | 5, .h => .set5H
  | 5, .l => .set5L
  | 5, .a => .set5A
  | 6, .b => .set6B
  | 6, .c => .set6C
  | 6, .d => .set6D
  | 6, .e => .set6E
  | 6, .h => .set6H
  | 6, .l => .set6L
  | 6, .a => .set6A
  | 7, .b => .set7B
  | 7, .c => .set7C
  | 7, .d => .set7D
  | 7, .e => .set7E
  | 7, .h => .set7H
  | 7, .l => .set7L
  | 7, .a => .set7A

/-- SET b,(HL). -/
def raiseBitMem : Fin 8 → Instr
  | 0 => .set0MemHl
  | 1 => .set1MemHl
  | 2 => .set2MemHl
  | 3 => .set3MemHl
  | 4 => .set4MemHl
  | 5 => .set5MemHl
  | 6 => .set6MemHl
  | 7 => .set7MemHl

/-- LD r,r', destination first. -/
def loadReg : Reg8 → Reg8 → Instr
  | .b, .b => .ldBB
  | .b, .c => .ldBC
  | .b, .d => .ldBD
  | .b, .e => .ldBE
  | .b, .h => .ldBH
  | .b, .l => .ldBL
  | .b, .a => .ldBA
  | .c, .b => .ldCB
  | .c, .c => .ldCC
  | .c, .d => .ldCD
  | .c, .e => .ldCE
  | .c, .h => .ldCH
  | .c, .l => .ldCL
  | .c, .a => .ldCA
  | .d, .b => .ldDB
  | .d, .c => .ldDC
  | .d, .d => .ldDD
  | .d, .e => .ldDE
  | .d, .h => .ldDH
  | .d, .l => .ldDL
  | .d, .a => .ldDA
  | .e, .b => .ldEB
  | .e, .c => .ldEC
  | .e, .d => .ldED
  | .e, .e => .ldEE
  | .e, .h => .ldEH
  | .e, .l => .ldEL
  | .e, .a => .ldEA
  | .h, .b => .ldHB
  | .h, .c => .ldHC
  | .h, .d => .ldHD
  | .h, .e => .ldHE
  | .h, .h => .ldHH
  | .h, .l => .ldHL
  | .h, .a => .ldHA
  | .l, .b => .ldLB
  | .l, .c => .ldLC
  | .l, .d => .ldLD
  | .l, .e => .ldLE
  | .l, .h => .ldLH
  | .l, .l => .ldLL
  | .l, .a => .ldLA
  | .a, .b => .ldAB
  | .a, .c => .ldAC
  | .a, .d => .ldAD
  | .a, .e => .ldAE
  | .a, .h => .ldAH
  | .a, .l => .ldAL
  | .a, .a => .ldAA

/-- LD r,n. -/
def loadImm : Reg8 → Byte → Instr
  | .b, n => .ldBN8 n
  | .c, n => .ldCN8 n
  | .d, n => .ldDN8 n
  | .e, n => .ldEN8 n
  | .h, n => .ldHN8 n
  | .l, n => .ldLN8 n
  | .a, n => .ldAN8 n

/-- LD r,(HL). -/
def loadMem : Reg8 → Instr
  | .b => .ldBMemHl
  | .c => .ldCMemHl
  | .d => .ldDMemHl
  | .e => .ldEMemHl
  | .h => .ldHMemHl
  | .l => .ldLMemHl
  | .a => .ldAMemHl

/-- LD (HL),r. -/
def storeMem : Reg8 → Instr
  | .b => .ldMemHlB
  | .c => .ldMemHlC
  | .d => .ldMemHlD
  | .e => .ldMemHlE
  | .h => .ldMemHlH
  | .l => .ldMemHlL
  | .a => .ldMemHlA

/-- LD rr,nn. -/
def loadPairImm : Pair → Word → Instr
  | .bc, nn => .ldBcN16 nn
  | .de, nn => .ldDeN16 nn
  | .hl, nn => .ldHlN16 nn
  | .sp, nn => .ldSpN16 nn

/-- PUSH rr and PUSH AF. -/
def pushPair : StackPair → Instr
  | .bc => .pushBc
  | .de => .pushDe
  | .hl => .pushHl
  | .af => .pushAf

/-- POP rr and POP AF. -/
def popPair : StackPair → Instr
  | .bc => .popBc
  | .de => .popDe
  | .hl => .popHl
  | .af => .popAf

/-- JP cc,nn. -/
def jumpAbsIf : Cond → Word → Instr
  | .nz, nn => .jpNzN16 nn
  | .z, nn => .jpZN16 nn
  | .nc, nn => .jpNcN16 nn
  | .c, nn => .jpCN16 nn

/-- JR cc,e. -/
def jumpRelIf : Cond → Byte → Instr
  | .nz, e => .jrNzE8 e
  | .z, e => .jrZE8 e
  | .nc, e => .jrNcE8 e
  | .c, e => .jrCE8 e

/-- CALL cc,nn. -/
def callAbsIf : Cond → Word → Instr
  | .nz, nn => .callNzN16 nn
  | .z, nn => .callZN16 nn
  | .nc, nn => .callNcN16 nn
  | .c, nn => .callCN16 nn

/-- RET cc. -/
def returnPopIf : Cond → Instr
  | .nz => .retNz
  | .z => .retZ
  | .nc => .retNc
  | .c => .retC

/-- RST 8t. -/
def restart : Fin 8 → Instr
  | 0 => .rst00
  | 1 => .rst08
  | 2 => .rst10
  | 3 => .rst18
  | 4 => .rst20
  | 5 => .rst28
  | 6 => .rst30
  | 7 => .rst38

end Sys2Proof.Forms
end

