-- ==== Sys2Proof/Safety.lean ====
section
/-! DEFINITION. What counts as a safe state and a safe run, and the words that statements use about memory. -/

namespace Sys2Proof.Machine

/-- The addresses under which the core stores RAM: work RAM and high RAM (R35, R36). -/
def ownedAddr (n : Nat) : Prop := 0xC000 ≤ n ∧ n ≤ 0xDFFF ∨ 0xFF80 ≤ n ∧ n ≤ 0xFFFE

/-- What every state the machine reaches satisfies: F's low nibble is 0 (R21), RAM is in its canonical form and lists only
addresses the core owns (R35, R36), an enable waits only while IME is 0 and only with the delay switched on (R144, R394), and no fault has happened (R140). -/
structure State.Inv (s : State) : Prop where
  flagsLow : s.f &&& 0x0F = 0
  ramCanonical : s.ram.wf
  ramOwned : ∀ c ∈ s.ram, ownedAddr c.1
  enableWaits : s.eiPending = true → s.ime = false
  enableDelayed : s.eiPending = true → s.params.eiDelayed = true
  noFault : s.faulted = none

/-- A safe state: its next step happens. -/
def State.Safe (s : State) : Prop := ∃ t, step s = .next t

/-- A run: steps that happen, one after another. -/
inductive Run : State → State → Prop
  | refl (s : State) : Run s s
  | step {s t u : State} : Run s t → Sys2Proof.Machine.step t = .next u → Run s u

/-- A state some run reaches from reset, for some reset inputs, some promised answers of the collaborators and some schedule of
host moves. -/
def Reachable (s : State) : Prop :=
  ∃ (r : ResetInputs) (answers : Answers) (inbox : List (List HostMove)),
    Run { State.resetWith r with answers := answers, inbox := inbox } s

/-- The storage byte of the core's RAM that an address names, if it names one (R64, R65, R69). -/
def ramKey (p : Params) (a : Word) : Option Nat :=
  match region p a with
  | .workRam => some (ramAddr .workRam a)
  | .echo => some (ramAddr .echo a)
  | .highRam => some (ramAddr .highRam a)
  | _ => none

/-- The core itself stores the byte at this address: RAM through either alias, IF or IE (R64, R65, R69). -/
def coreOwned (p : Params) (a : Word) : Prop :=
  ramKey p a ≠ none ∨ region p a = .interruptFlag ∨ region p a = .interruptEnable

/-- Two addresses name the same byte of the core's storage: the same address, or an echo address and its primary one (R65). -/
def sameCell (p : Params) (x a : Word) : Prop :=
  coreOwned p a ∧ (x = a ∨ (ramKey p a ≠ none ∧ ramKey p x = ramKey p a))

/-- t's memory is s's after byte v is stored at a: where the core stores that address it reads as v, and every address that is
not that byte reads as before (R64 to R70, R75). -/
def Stored (s t : State) (a : Word) (v : Byte) : Prop :=
  (coreOwned s.params a → t.byteAt a = some v) ∧
  ∀ x, ¬ sameCell s.params x a → t.byteAt x = s.byteAt x

/-- t's memory is s's after the 16-bit v is stored at a, low byte at a and high byte at a + 1 (R61, R75). -/
def Stored16 (s t : State) (a v : Word) : Prop :=
  (coreOwned s.params a → t.byteAt a = some (loByte v)) ∧
  (coreOwned s.params (a + 1) → t.byteAt (a + 1) = some (hiByte v)) ∧
  ∀ x, ¬ sameCell s.params x a → ¬ sameCell s.params x (a + 1) → t.byteAt x = s.byteAt x

/-- Every byte of memory reads as before. -/
def SameMemory (s t : State) : Prop := ∀ x, t.byteAt x = s.byteAt x

end Sys2Proof.Machine
end

