-- ==== Sys2Proof/Certificates/Slice0/Obligations.lean ====
section
/-! DEFINITION. The statements for the provers. The first part holds the words they share; each statement's docstring names the
rules of spec/ it formalises. -/

namespace Sys2Proof.Claims

open Sys2Proof Sys2Proof.Machine

/-- F reads as these four flags, and its low nibble is 0 (R21, R209). -/
def FlagsAre (t : State) (z n h c : Prop) : Prop :=
  (t.flagZ = true ↔ z) ∧ (t.flagN = true ↔ n) ∧ (t.flagH = true ↔ h) ∧ (t.flagC = true ↔ c) ∧ t.f &&& 0x0F = 0

/-- The instruction has these bytes, and they decode to it whatever follows. -/
def Encoded (i : Instr) (bytes : List Byte) : Prop :=
  encode i = bytes ∧ ∀ rest, decode (bytes ++ rest) = .ok (i, rest)

/-- The value of the r8 field that names a register (R103). -/
def r8Code : Reg8 → Byte
  | .b => 0
  | .c => 1
  | .d => 2
  | .e => 3
  | .h => 4
  | .l => 5
  | .a => 7

/-- The value of the rp field (R104). -/
def rpCode : Pair → Byte
  | .bc => 0
  | .de => 1
  | .hl => 2
  | .sp => 3

/-- The value of the rp2 field (R105). -/
def rp2Code : StackPair → Byte
  | .bc => 0
  | .de => 1
  | .hl => 2
  | .af => 3

/-- The value of the cc field (R107). -/
def ccCode : Cond → Byte
  | .nz => 0
  | .z => 1
  | .nc => 2
  | .c => 3

/-- The condition that the cc field names (R360). -/
def ccMeans (cc : Cond) (s : State) : Prop :=
  match cc with
  | .nz => s.flagZ = false
  | .z => s.flagZ = true
  | .nc => s.flagC = false
  | .c => s.flagC = true

/-- The state that a fault on an unmapped address leaves: the record is set, and nothing else changes (R421, R422). -/
def faultedAt (s : State) (a : Word) (kind : Access) : State :=
  { s with faulted := some (.unmappedAddress a kind s.pcStart) }

/-- Where address a is unmapped under the fatal policy, the instruction raises UnmappedAddress there with no effect of its own
(R423). -/
def FaultsAt (i : Instr) (s : State) (a : Word) (kind : Access) : Prop :=
  s.accessible a = false → exec i s = .fault (.unmappedAddress a kind s.pcStart (faultedAt s a kind))

/-- The instruction completes in n cycles, A and F are as P says, and nothing else changes. -/
def ChangesAF (i : Instr) (s : State) (n : Nat) (P : State → Prop) : Prop :=
  ∃ t, exec i s = .next t ∧ P t ∧ SameMemory s t ∧ t = { s with a := t.a, f := t.f, cycles := n }

/-- The instruction reads the byte at HL and completes in n cycles, A and F are as P says of that byte, and nothing else changes
but what the read leaves of its own (State.afterRead: its record, and the promise it uses up at a collaborator's address); where HL
is unmapped, it faults. -/
def ReadsHlChangesAF (i : Instr) (s : State) (n : Nat) (P : Byte → State → Prop) : Prop :=
  (s.accessible s.hl = true →
    ∃ t, exec i s = .next t ∧ P (s.readValue s.hl) t ∧ SameMemory s t ∧
      t = { s.afterRead .read s.hl with a := t.a, f := t.f, cycles := n }) ∧
  FaultsAt i s s.hl .read

/-- The instruction replaces the byte v at HL by w v: it reads HL, writes HL, and completes in n cycles; F is as P says of v, every
other byte of memory reads as before, and nothing else changes but the record of the two transactions and the collaborators' promises;
where HL is unmapped, it faults with no write. -/
def RewritesHl (i : Instr) (s : State) (n : Nat) (w : Byte → Byte) (P : Byte → State → Prop) : Prop :=
  (s.accessible s.hl = true →
    ∃ t, exec i s = .next t ∧ P (s.readValue s.hl) t ∧ Stored s t s.hl (w (s.readValue s.hl)) ∧
      t = { s.afterRead .read s.hl with
            f := t.f, ram := t.ram, ifReg := t.ifReg, ieReg := t.ieReg, cycles := n
            answers := (s.answers.used (region s.params s.hl)).withdrawn (region s.params s.hl)
            trace := s.trace ++ [⟨.read, s.hl, s.readValue s.hl⟩, ⟨.write, s.hl, w (s.readValue s.hl)⟩] }) ∧
  FaultsAt i s s.hl .read

/-- The instruction loads the byte at address a into a register and completes in n cycles, and nothing else changes but what the read
leaves of its own (State.afterRead); where a is unmapped, it faults. -/
def LoadsByte (i : Instr) (s : State) (n : Nat) (dst : Reg8) (a : Word) : Prop :=
  (s.accessible a = true →
    exec i s = .next { (s.afterRead .read a).setReg dst (s.readValue a) with cycles := n } ∧
    SameMemory s ((s.afterRead .read a).setReg dst (s.readValue a))) ∧
  FaultsAt i s a .read

/-- The instruction stores byte v at address a and completes in n cycles; every other byte of memory reads as before, and nothing
else changes but the record of the write and the promises of a collaborator written to; where a is unmapped, it faults. -/
def StoresByte (i : Instr) (s : State) (n : Nat) (a : Word) (v : Byte) : Prop :=
  (s.accessible a = true →
    ∃ t, exec i s = .next t ∧ Stored s t a v ∧
      t = { s with
            ram := t.ram, ifReg := t.ifReg, ieReg := t.ieReg, cycles := n
            answers := s.answers.withdrawn (region s.params a), trace := s.trace ++ [⟨.write, a, v⟩] }) ∧
  FaultsAt i s a .write

/-- From state s, the instruction stores the 16-bit v at address a, low byte first, and completes in n cycles with PC as given;
every other byte of memory reads as before, and nothing else changes but the record of the two writes and the promises of a
collaborator written to. s0 is the state the
instruction starts from; s differs from it in SP, where the instruction is a push. Where the first byte is unmapped nothing is
written; where only the second is, the first byte has been (R422). -/
def StoresWord (i : Instr) (s0 s : State) (n : Nat) (a v pc : Word) : Prop :=
  (s.accessible a = true → s.accessible (a + 1) = true →
    ∃ t, exec i s0 = .next t ∧ Stored16 s t a v ∧
      t = { s with
            pc := pc, ram := t.ram, ifReg := t.ifReg, ieReg := t.ieReg, cycles := n
            answers := (s.answers.withdrawn (region s.params a)).withdrawn (region s.params (a + 1))
            trace := s.trace ++ [⟨.write, a, loByte v⟩, ⟨.write, a + 1, hiByte v⟩] }) ∧
  (s.accessible a = false → exec i s0 = .fault (.unmappedAddress a .write s.pcStart (faultedAt s a .write))) ∧
  (s.accessible a = true → s.accessible (a + 1) = false →
    ∃ t, exec i s0 = .fault (.unmappedAddress (a + 1) .write s.pcStart t) ∧ Stored s t a (loByte v) ∧
      t = { faultedAt s (a + 1) .write with
            ram := t.ram, ifReg := t.ifReg, ieReg := t.ieReg, answers := s.answers.withdrawn (region s.params a)
            trace := s.trace ++ [⟨.write, a, loByte v⟩] })

/-- The instruction pushes v: SP goes down by 2, and v stands at the new SP, low byte first (R12, R330). -/
def Pushes (i : Instr) (s : State) (n : Nat) (v pc : Word) : Prop :=
  StoresWord i s { s with sp := s.sp - 2 } n (s.sp - 2) v pc

/-- The instruction pops a 16-bit value, low byte first, SP goes up by 2, and the value is used as upd says; where a byte is
unmapped, it faults before SP moves (R12, R330). -/
def Pops (i : Instr) (s : State) (n : Nat) (upd : Word → State → State) : Prop :=
  let s1 := s.afterRead .read s.sp
  let v := wordOf (s1.readValue (s.sp + 1)) (s.readValue s.sp)
  let s2 := s1.afterRead .read (s.sp + 1)
  (s.accessible s.sp = true → s.accessible (s.sp + 1) = true →
    exec i s = .next { upd v { s2 with sp := s.sp + 2 } with cycles := n } ∧
    SameMemory s (upd v { s2 with sp := s.sp + 2 })) ∧
  FaultsAt i s s.sp .read ∧
  (s.accessible s.sp = true → s.accessible (s.sp + 1) = false →
    exec i s = .fault (.unmappedAddress (s.sp + 1) .read s.pcStart (faultedAt s1 (s.sp + 1) .read)))

/-- add8 (R170) of a, v and the carry-in, as what A and F hold afterwards. -/
def AddResult (a v : Byte) (cin : Bool) (t : State) : Prop :=
  t.a.toNat = (a.toNat + v.toNat + cin.toNat) % 256 ∧
  FlagsAre t (t.a = 0) False (a.toNat % 16 + v.toNat % 16 + cin.toNat > 0xF) (a.toNat + v.toNat + cin.toNat > 0xFF)

/-- The integer difference of sub8 (R171). -/
def difference (a v : Byte) (cin : Bool) : Int := (a.toNat : Int) - v.toNat - cin.toNat

/-- The flags of sub8 (R171). -/
def SubFlags (a v : Byte) (cin : Bool) (t : State) : Prop :=
  FlagsAre t (difference a v cin % 256 = 0) True
    (((a.toNat % 16 : Nat) : Int) - (v.toNat % 16 : Nat) - cin.toNat < 0) (difference a v cin < 0)

/-- sub8 (R171) of a, v and the borrow-in, as what A and F hold afterwards. -/
def SubResult (a v : Byte) (cin : Bool) (t : State) : Prop :=
  (t.a.toNat : Int) = difference a v cin % 256 ∧ SubFlags a v cin t

/-- A bitwise result r of R172 to R174, as what A and F hold afterwards. -/
def LogicResult (r : Byte) (h : Prop) (t : State) : Prop := t.a = r ∧ FlagsAre t (r = 0) False h False

/-- The flags of inc8 (R175), with C as before. -/
def IncFlags (s : State) (v : Byte) (t : State) : Prop :=
  FlagsAre t (v.toNat = 0xFF) False (v.toNat % 16 = 0xF) (s.flagC = true)

/-- The flags of dec8 (R176), with C as before. -/
def DecFlags (s : State) (v : Byte) (t : State) : Prop :=
  FlagsAre t (v.toNat = 1) True (v.toNat % 16 = 0) (s.flagC = true)

/-- The result of a rotate (R250 to R253) or shift (R254 to R257), in integers. -/
def shifted (op : ShiftOp) (v : Byte) (cin : Bool) : Nat :=
  match op with
  | .rlc => 2 * v.toNat % 256 + v.toNat / 128
  | .rrc => v.toNat / 2 + 128 * (v.toNat % 2)
  | .rl => 2 * v.toNat % 256 + cin.toNat
  | .rr => v.toNat / 2 + 128 * cin.toNat
  | .sla => 2 * v.toNat % 256
  | .sra => v.toNat / 2 + 128 * (v.toNat / 128)
  | .swap => 16 * (v.toNat % 16) + v.toNat / 16
  | .srl => v.toNat / 2

/-- The carry out of a rotate or shift (R250 to R257). -/
def shiftCarry (op : ShiftOp) (v : Byte) : Prop :=
  match op with
  | .rlc | .rl | .sla => v.toNat ≥ 128
  | .rrc | .rr | .sra | .srl => v.toNat % 2 = 1
  | .swap => False

/-- The flags of an extended-table rotate or shift (43_rotate_shift_bit.md, section 3). -/
def ShiftFlags (op : ShiftOp) (v : Byte) (cin : Bool) (t : State) : Prop :=
  FlagsAre t (shifted op v cin = 0) False False (shiftCarry op v)

/-- The second byte of an extended rotate or shift, without its register field (R102, R111). -/
def shiftCode : ShiftOp → Byte
  | .rlc => 0x00
  | .rrc => 0x08
  | .rl => 0x10
  | .rr => 0x18
  | .sla => 0x20
  | .sra => 0x28
  | .swap => 0x30
  | .srl => 0x38

/-- A register form of an extended rotate or shift: encoded as R111 says, it completes in 8 cycles, writes the register and F, and
changes nothing else. -/
def ShiftsRegister (op : ShiftOp) (r : Reg8) (s : State) : Prop :=
  Encoded (Forms.shiftReg op r) [0xCB, shiftCode op + r8Code r] ∧
  ∃ t, exec (Forms.shiftReg op r) s = .next t ∧ (t.reg r).toNat = shifted op (s.reg r) s.flagC ∧
    ShiftFlags op (s.reg r) s.flagC t ∧ SameMemory s t ∧ t = { s.setReg r (t.reg r) with f := t.f, cycles := 8 }

/-- The (HL) form of an extended rotate or shift: encoded as R111 says, it rewrites the byte at HL in 16 cycles. -/
def ShiftsMemory (op : ShiftOp) (s : State) : Prop :=
  Encoded (Forms.shiftMem op) [0xCB, shiftCode op + 6] ∧
  RewritesHl (Forms.shiftMem op) s 16 (fun v => BitVec.ofNat 8 (shifted op v s.flagC))
    (fun v => ShiftFlags op v s.flagC)

/-- DAA's result (R205), in integers: the adjusted A and the new carry. -/
def daaValue (a : Nat) (n h c : Bool) : Nat × Bool :=
  if n = false then
    let high := c = true ∨ a > 0x99
    let low := h = true ∨ a % 16 > 0x09
    ((a + (if high then 0x60 else 0) + (if low then 0x06 else 0)) % 256, decide high)
  else ((a + 512 - (if c then 0x60 else 0) - (if h then 0x06 else 0)) % 256, c)

/-- A byte whose two nibbles are decimal digits. -/
def IsBcd (v : Byte) : Prop := v.toNat / 16 ≤ 9 ∧ v.toNat % 16 ≤ 9

/-- The number that two decimal digits stand for. -/
def bcdValue (v : Byte) : Nat := 10 * (v.toNat / 16) + v.toNat % 16

/-- The integer value of a displacement byte (R8). -/
def signed (e : Byte) : Int := if e.toNat ≥ 128 then (e.toNat : Int) - 256 else e.toNat

/-- The flags of addsp (R231): Z and N clear, H and C from the unsigned low-byte addition. -/
def AddSpFlags (sp : Word) (e : Byte) (t : State) : Prop :=
  FlagsAre t False False (sp.toNat % 16 + e.toNat % 16 > 0x0F) (sp.toNat % 256 + e.toNat > 0xFF)

/-- A push, as the two stores of R12 on a state whose SP has gone down: the low byte at the new SP, then the high byte. -/
def pushed (s : State) (v : Word) : State :=
  ({ s with sp := s.sp - 2 }.afterWrite (s.sp - 2) (loByte v)).afterWrite (s.sp - 2 + 1) (hiByte v)

/-- The state in which the step's own phases begin: the host's scheduled moves have been made, the step is counted, and
the last step's outputs are cleared, its transactions joining the earlier ones. -/
def begun (s : State) : State := s.takeInbox.beginStep

/-- The state in which phase 4 fetches, where phases 0 to 2 do not end the step: halted is over and a pending enable has taken
effect (R142, R144). -/
def atFetch (s : State) : State := (begun s).wake.latchEnable

/-- The state in which phase 4 fetches the first byte (R145, R146). -/
def startFetch (s : State) : State := { atFetch s with pcStart := (atFetch s).pc }

/-- The state after k more fetches, each at PC, which moves on by one (R11). -/
def fetched : Nat → State → State
  | 0, s => s
  | k + 1, s => fetched k { s.afterRead .fetch s.pc with pc := s.pc + 1 }

/-- Nothing ends the step before phase 4 (R141 to R143). -/
def Fetches (s : State) : Prop :=
  s.faulted = none ∧ (begun s).stopped = false ∧ (begun s).takesInterrupt = false ∧ (begun s).wake.halted = false

end Sys2Proof.Claims

open Sys2Proof Sys2Proof.Machine Sys2Proof.Claims

/-! Encoding. -/

/-- Every well-formed instruction's bytes decode to it, with every operand as it was, whatever bytes follow
(spec/30_encoding.md, sections 1 to 5). -/
def Obligations.DecodeOfEncodeIsTheInstruction : Prop :=
  ∀ (i : Instr) (rest : List Byte), i.wf = true → decode (encode i ++ rest) = .ok (i, rest)

/-- What decodes to an instruction is that instruction's encoding, and the instruction is well formed: every byte value is exactly one
entry of the tables, and no bit is dropped (spec/30_encoding.md, sections 3 to 5). -/
def Obligations.EncodeOfDecodeIsTheBytes : Prop :=
  ∀ (bytes rest : List Byte) (i : Instr), decode bytes = .ok (i, rest) → i.wf = true ∧ bytes = encode i ++ rest

/-- R114: the first byte alone decides the length: the prefix makes 2, the listed bytes 3 and 2, everything else 1; decoding uses
that many bytes and refuses fewer; and after an illegal first byte it reads no further, and what it gives stops with the fault. -/
def Obligations.LengthIsDecidedByTheFirstByte : Prop :=
  ∀ (o : Byte) (bytes : List Byte),
    lengthOf o =
      (if o = 0xCB then 2
       else if o ∈ ([0x01, 0x11, 0x21, 0x31, 0x08, 0xC3, 0xC2, 0xCA, 0xD2, 0xDA, 0xCD, 0xC4, 0xCC, 0xD4, 0xDC,
          0xEA, 0xFA] : List Byte) then 3
       else if o ∈ ([0x06, 0x0E, 0x16, 0x1E, 0x26, 0x2E, 0x3E, 0x36, 0xC6, 0xCE, 0xD6, 0xDE, 0xE6, 0xEE, 0xF6, 0xFE,
          0x18, 0x20, 0x28, 0x30, 0x38, 0xE0, 0xF0, 0xE8, 0xF8, 0x10] : List Byte) then 2
       else 1) ∧
    (lengthOf o ≤ (o :: bytes).length → ∃ i, decode (o :: bytes) = .ok (i, (o :: bytes).drop (lengthOf o))) ∧
    ((o :: bytes).length < lengthOf o → decode (o :: bytes) = .error (.truncated o)) ∧
    (o ∈ illegalBytes → decode (o :: bytes) = .ok (.illegal o, bytes) ∧
      ∀ s, exec (.illegal o) s = .fault (.unimplementedOpcode o s.pcStart
        { s with faulted := some (.unimplementedOpcode o s.pcStart) }))

/-- R111: the extended table by the fields of its byte: x = 0 holds the rotates and shifts in the order of y, x = 1 BIT y, x = 2 RES y,
x = 3 SET y, and z names the operand throughout; no value is left over. -/
def Obligations.ExtendedTableFollowsItsFields : Prop :=
  (∀ (op : ShiftOp) (r : Reg8) (i : Fin 8),
    Encoded (Forms.shiftReg op r) [0xCB, shiftCode op + r8Code r] ∧
    Encoded (Forms.shiftMem op) [0xCB, shiftCode op + 6] ∧
    Encoded (Forms.testBitReg i r) [0xCB, 0x40 + BitVec.ofNat 8 (8 * i.val) + r8Code r] ∧
    Encoded (Forms.testBitMem i) [0xCB, 0x40 + BitVec.ofNat 8 (8 * i.val) + 6] ∧
    Encoded (Forms.clearBitReg i r) [0xCB, 0x80 + BitVec.ofNat 8 (8 * i.val) + r8Code r] ∧
    Encoded (Forms.clearBitMem i) [0xCB, 0x80 + BitVec.ofNat 8 (8 * i.val) + 6] ∧
    Encoded (Forms.raiseBitReg i r) [0xCB, 0xC0 + BitVec.ofNat 8 (8 * i.val) + r8Code r] ∧
    Encoded (Forms.raiseBitMem i) [0xCB, 0xC0 + BitVec.ofNat 8 (8 * i.val) + 6]) ∧
  ∀ (p : Byte), ∃ i, decode [0xCB, p] = .ok (i, []) ∧ i.wf = true

/-- Sanity: one word of each family, written out from the encodings of spec/30_encoding.md, decodes to its instruction. -/
def Obligations.SampleWordsDecode : Prop :=
  decode [0b00000000] = .ok (.nop, []) ∧
  decode [0b00010000, 0x5A] = .ok (.stop 0x5A, []) ∧
  decode [0b00000001, 0x34, 0x12] = .ok (.ldBcN16 0x1234, []) ∧
  decode [0b01111110] = .ok (.ldAMemHl, []) ∧
  decode [0b10001110] = .ok (.adcAMemHl, []) ∧
  decode [0b00101000, 0xFE] = .ok (.jrZE8 0xFE, []) ∧
  decode [0b11010101] = .ok (.pushDe, []) ∧
  decode [0b11001011, 0b00110111] = .ok (.swapA, []) ∧
  decode [0b11001011, 0b01011110] = .ok (.bit3MemHl, []) ∧
  decode [0b00111001] = .ok (.addHlSp, []) ∧
  decode [0b11010011] = .ok (.illegal 0xD3, [])

/-! The step. -/

/-- When the bytes fetched from PC on are the encoding of a well-formed instruction, wherever they come from, the step is exec of it, in
the state after those fetches: the host's moves, the wake from halt and a pending enable have been seen to, PC has moved past the
instruction's bytes, the fetches stand in the bus trace in increasing address order, and only the collaborators' promises may have
been used up. Where the core itself stores the bytes, the premise is that they stand in memory, and no promise is used up
(spec/40_dispatcher.md, sections 2, 3 and 6). -/
def Obligations.StepRunsTheDecodedInstruction : Prop :=
  ∀ (s : State) (i : Instr), i.wf = true → Fetches s →
    ((∀ (k : Nat) (v : Byte), (encode i)[k]? = some v →
        let u := fetched k (startFetch s)
        u.accessible u.pc = true ∧ u.readValue u.pc = v) →
      let t := fetched (encode i).length (startFetch s)
      step s = exec i t ∧
      t = { atFetch s with
        pcStart := (atFetch s).pc
        pc := (atFetch s).pc + BitVec.ofNat 16 (encode i).length
        answers := t.answers
        trace := (encode i).zipIdx.map fun (v, k) => ⟨.fetch, (atFetch s).pc + BitVec.ofNat 16 k, v⟩ }) ∧
    ((∀ (k : Nat) (v : Byte), (encode i)[k]? = some v →
        (atFetch s).byteAt ((atFetch s).pc + BitVec.ofNat 16 k) = some v) →
      step s = exec i
        { atFetch s with
          pcStart := (atFetch s).pc
          pc := (atFetch s).pc + BitVec.ofNat 16 (encode i).length
          trace := (encode i).zipIdx.map fun (v, k) => ⟨.fetch, (atFetch s).pc + BitVec.ofNat 16 k, v⟩ })

/-- R141: a stopped step returns 4 cycles and changes nothing, and no interrupt is checked. (The step's outputs and the two fields
that a draw depends on are the model's own: notes/assumptions/5.md, 11.md.) -/
def Obligations.StoppedStepChangesNothing : Prop :=
  ∀ (s : State), s.faulted = none → s.inbox = [] → s.stopped = true →
    step s = .next { s with cycles := 4, trace := [], past := s.past ++ s.trace, steps := s.steps + 1 }

/-- R143: a halted step with nothing pending returns 4 cycles without fetching, whatever IME is. (The step's outputs and the two
fields that a draw depends on are the model's own: notes/assumptions/5.md, 11.md.) -/
def Obligations.HaltedStepWithNothingPendingIdles : Prop :=
  ∀ (s : State), s.faulted = none → s.inbox = [] → s.stopped = false → s.halted = true →
    s.ifReg &&& s.ieReg &&& 0x1F = 0 →
    step s = .next { s with cycles := 4, trace := [], past := s.past ++ s.trace, steps := s.steps + 1 }

/-- A halted step with IME = 0 and something pending clears halted and executes the next instruction in the same step: it is the step of
the state that is not halted (spec/40_dispatcher.md, section 2; spec/47_system.md). -/
def Obligations.PendingSourceWakesWithoutService : Prop :=
  ∀ (s : State), s.faulted = none → s.inbox = [] → s.stopped = false → s.halted = true → s.ime = false →
    s.ifReg &&& s.ieReg &&& 0x1F ≠ 0 →
    step s = step { s with halted := false }

/-- A pending enable becomes IME = 1 before the next fetch, and no interrupt is serviced in that step whatever is pending: the
instruction after EI always runs, with IME = 1 (spec/40_dispatcher.md, section 2; spec/70_reset_and_hazards.md, section 3). -/
def Obligations.PendingEnableTakesEffectBeforeTheFetch : Prop :=
  ∀ (s : State), s.faulted = none → s.inbox = [] → s.stopped = false → s.halted = false → s.ime = false →
    s.eiPending = true →
    let u := { s with
      ime := true, eiPending := false, cycles := 0, trace := [], past := s.past ++ s.trace, steps := s.steps + 1 }
    step s = fetchExecute exec u ∧
    (u.accessible u.pc = true → u.readValue u.pc = 0xF3 →
      step s = .next { u.afterRead .fetch u.pc with
        ime := false, eiPending := false, pcStart := s.pc, pc := s.pc + 1, cycles := 4 })

/-- R416: with IME = 1 and a source pending, the step clears IME and halted, pushes PC, jumps to the vector of the lowest pending bit,
clears that bit of IF only and returns 20 cycles; nothing else changes. A push that faults leaves IME = 0 and SP decremented. -/
def Obligations.InterruptServiceEntersTheLowestPendingVector : Prop :=
  ∀ (s : State) (k : Nat), s.faulted = none → s.inbox = [] → s.stopped = false → s.ime = true → k < 5 →
    (s.ifReg &&& s.ieReg).getLsbD k = true → (∀ j < k, (s.ifReg &&& s.ieReg).getLsbD j = false) →
    let s0 := { s with
      halted := false, ime := false, pcStart := s.pc
      cycles := 0, trace := [], past := s.past ++ s.trace, steps := s.steps + 1 }
    let u := pushed s0 s.pc
    (s.accessible (s.sp - 2) = true → s.accessible (s.sp - 1) = true →
      step s = .next { u with
        pc := BitVec.ofNat 16 (0x0040 + 8 * k), ifReg := u.ifReg &&& ~~~(1#8 <<< k), cycles := 20 } ∧
      Stored16 s0 u (s.sp - 2) s.pc ∧
      u = { s0 with
            sp := s.sp - 2, ram := u.ram, ifReg := u.ifReg, ieReg := u.ieReg, answers := u.answers
            trace := [⟨.write, s.sp - 2, loByte s.pc⟩, ⟨.write, s.sp - 1, hiByte s.pc⟩] }) ∧
    (s.accessible (s.sp - 2) = false →
      step s = .fault (.unmappedAddress (s.sp - 2) .write s.pc
        (faultedAt { s0 with sp := s.sp - 2 } (s.sp - 2) .write))) ∧
    (s.accessible (s.sp - 2) = true → s.accessible (s.sp - 1) = false →
      step s = .fault (.unmappedAddress (s.sp - 1) .write s.pc
        (faultedAt ({ s0 with sp := s.sp - 2 }.afterWrite (s.sp - 2) (loByte s.pc)) (s.sp - 1) .write)))

/-- After a service the next step services nothing, however many sources are pending and whatever the host raises: the handler's first
instruction runs first. The serviced source is no longer pending (spec/60_exceptions.md, section 3). -/
def Obligations.NoSecondServiceRightAfterAService : Prop :=
  ∀ (s t : State), (begun s).takesInterrupt = true → (begun s).stopped = false → step s = .next t →
    t.ime = false ∧ (begun t).takesInterrupt = false ∧ t.halted = false ∧
    t.pending.getLsbD (highest (begun s).pending) = false

/-- After a fatal fault there is no further step, whatever else the state holds (spec/40_dispatcher.md, section 1). -/
def Obligations.NoStepAfterAFault : Prop :=
  ∀ (s : State) (r : FaultRecord), s.faulted = some r → step s = .fault (.noFurtherStep r)

/-- A step faults only as R420 and R423 say: an opcode byte with no table entry, or an unmapped address under the fatal policy; the
state left holds the record, and a record names the start of the instruction (spec/60_exceptions.md, section 4). -/
def Obligations.StepFaultsOnlyAsTheSpecSays : Prop :=
  ∀ (s : State) (f : Fault), s.faulted = none → step s = .fault f →
    (∃ o left, f = .unimplementedOpcode o (atFetch s).pc left ∧ o ∈ illegalBytes ∧
      left.faulted = some (.unimplementedOpcode o (atFetch s).pc)) ∨
    (∃ a kind left, f = .unmappedAddress a kind (begun s).pc left ∧ s.params.unmappedPolicy = .fatal ∧
      region s.params a = .unmapped ∧ left.faulted = some (.unmappedAddress a kind (begun s).pc))

/-- No step ever refuses (R140). -/
def Obligations.NoStepRefuses : Prop := ∀ (s : State) (r : Refusal), step s ≠ .refused r

/-- R112, R150: the eleven bytes and no others decode to an instruction with no table entry; a step that fetches one raises
UnimplementedOpcode with the byte and its own address, under either policy, and PC's move past it is the only change. -/
def Obligations.IllegalOpcodesAreReported : Prop :=
  (∀ (o : Byte) (rest : List Byte), decode (o :: rest) = .ok (.illegal o, rest) ↔ o ∈ illegalBytes) ∧
  (∀ (o : Byte) (s : State),
    exec (.illegal o) s = .fault (.unimplementedOpcode o s.pcStart
      { s with faulted := some (.unimplementedOpcode o s.pcStart) })) ∧
  ∀ (s : State) (o : Byte), o ∈ illegalBytes → Fetches s → (atFetch s).accessible (atFetch s).pc = true →
    (atFetch s).readValue (atFetch s).pc = o →
    step s = .fault (.unimplementedOpcode o (atFetch s).pc
      { (atFetch s).afterRead .fetch (atFetch s).pc with
        pcStart := (atFetch s).pc, pc := (atFetch s).pc + 1
        faulted := some (.unimplementedOpcode o (atFetch s).pc) })

/-- A fetch from an unmapped address faults under the fatal policy before PC moves; under the open-bus policy it gives the open-bus byte,
which with the default 0xFF runs RST 0x38 (spec/20_memory.md, section 2). (That the open-bus fetch stands in the bus trace is the
model's choice, on which the spec says nothing: notes/assumptions/11.md.) -/
def Obligations.UnmappedFetchFollowsThePolicy : Prop :=
  ∀ (s : State), Fetches s → region s.params (atFetch s).pc = .unmapped →
    (s.params.unmappedPolicy = .fatal →
      step s = .fault (.unmappedAddress (atFetch s).pc .fetch (atFetch s).pc
        (faultedAt { atFetch s with pcStart := (atFetch s).pc } (atFetch s).pc .fetch))) ∧
    (s.params.unmappedPolicy = .openBus → s.params.openBusByte = 0xFF →
      step s = exec .rst38 { atFetch s with
        pcStart := (atFetch s).pc, pc := (atFetch s).pc + 1, trace := [⟨.fetch, (atFetch s).pc, 0xFF⟩] })

/-! Whole-machine rules. -/

/-- The invariant holds after reset, whatever the reset inputs. -/
def Obligations.InvariantHoldsAtReset : Prop := ∀ (r : ResetInputs), (State.resetWith r).Inv

/-- Every step keeps the invariant: F's low nibble 0, RAM canonical and within what the core owns, a waiting enable only with
IME = 0 and the delay on, no fault. -/
def Obligations.StepKeepsTheInvariant : Prop := ∀ (s t : State), s.Inv → step s = .next t → t.Inv

/-- R21, R468: in every reachable state F's bits 3:0 are 0. -/
def Obligations.FlagsLowNibbleIsZeroInEveryReachableState : Prop := ∀ (s : State), Reachable s → s.f &&& 0x0F = 0

/-- R32, R33: IF and IE are the bytes at 0xFF0F and 0xFFFF and keep all 8 bits written there, with no other effect of the access;
source k is requested and enabled by bit k, and bits 7:5 have no effect. No core action other than a write to 0xFFFF changes IE.
From what the host's requests have made of IF, a step changes it only by a write to 0xFF0F and, in a service, by clearing the
serviced source's bit. -/
def Obligations.InterruptRegistersChangeOnlyAsTheSpecSays : Prop :=
  (∀ (s t : State), step s = .next t →
    ((∀ ev ∈ t.trace, ev.access = .write → ev.addr ≠ 0xFFFF) → t.ieReg = s.ieReg) ∧
    ((∀ ev ∈ t.trace, ev.access = .write → ev.addr ≠ 0xFF0F) →
      t.ifReg =
        if (begun s).stopped = false ∧ (begun s).takesInterrupt = true then
          (begun s).ifReg &&& ~~~(1#8 <<< highest (begun s).pending)
        else (begun s).ifReg)) ∧
  (∀ (s : State), s.inbox = [] → (begun s).ifReg = s.ifReg) ∧
  (∀ (s : State) (m : BitVec 5) (moves : List (List HostMove)), s.inbox = [.raise m] :: moves →
    (begun s).ifReg = s.ifReg ||| m.setWidth 8) ∧
  ∀ (s : State) (v : Byte) (k : Nat),
    s.byteAt 0xFFFF = some s.ieReg ∧ s.afterWrite 0xFFFF v = { s with ieReg := v, trace := s.trace ++ [⟨.write, 0xFFFF, v⟩] } ∧
    s.byteAt 0xFF0F = some s.ifReg ∧ s.afterWrite 0xFF0F v = { s with ifReg := v, trace := s.trace ++ [⟨.write, 0xFF0F, v⟩] } ∧
    (s.pending.getLsbD k = true ↔ k < 5 ∧ s.ifReg.getLsbD k = true ∧ s.ieReg.getLsbD k = true)

/-- A byte of the core's RAM changes in a step only if the step's bus trace holds a write to an address that names it
(spec/20_memory.md, section 3). -/
def Obligations.RamChangesOnlyByARecordedWrite : Prop :=
  ∀ (s t : State) (a : Word), step s = .next t → ramKey s.params a ≠ none →
    (∀ ev ∈ t.trace, ev.access = .write → ramKey s.params ev.addr ≠ ramKey s.params a) → t.byteAt a = s.byteAt a

/-- Only EI, DI and RETI change IME or the enable latch, only HALT changes halted and only STOP changes stopped; no instruction changes
the parameters, the host's schedule, the fault record or what went before the step (spec/10_state.md, sections 2 and 5). -/
def Obligations.ControlFlagsChangeOnlyByTheirInstructions : Prop :=
  ∀ (i : Instr) (s t : State), exec i s = .next t →
    (t.ime ≠ s.ime → i = .ei ∨ i = .di ∨ i = .reti) ∧
    (t.eiPending ≠ s.eiPending → i = .ei ∨ i = .di) ∧
    (t.halted ≠ s.halted → i = .halt) ∧
    (t.stopped ≠ s.stopped → ∃ x, i = .stop x) ∧
    t.params = s.params ∧ t.inbox = s.inbox ∧ t.faulted = s.faulted ∧ t.pcStart = s.pcStart ∧ t.past = s.past ∧
    t.steps = s.steps

/-- Every step that happens returns a positive multiple of 4 cycles and leaves the parameters alone (spec/40_dispatcher.md, section 1;
spec/00_scope.md, section 4). -/
def Obligations.StepReturnsAMultipleOfFourCycles : Prop :=
  ∀ (s t : State), step s = .next t → 0 < t.cycles ∧ t.cycles % 4 = 0 ∧ t.params = s.params

/-! Reset, the bus and the host. -/

/-- R460: the state after reset, with its reset inputs. -/
def Obligations.ResetSetsEveryState : Prop :=
  ∀ (r : ResetInputs),
    let s := State.resetWith r
    s.a = 0x01 ∧ s.f = (if r.headerChecksum = 0x00 then 0x80 else 0xB0) ∧ s.b = 0x00 ∧ s.c = 0x13 ∧ s.d = 0x00 ∧ s.e = 0xD8 ∧
    s.h = 0x01 ∧ s.l = 0x4D ∧ s.sp = 0xFFFE ∧ s.pc = 0x0100 ∧ s.ime = false ∧ s.halted = false ∧ s.stopped = false ∧
    s.eiPending = false ∧ s.ifReg = r.ifReset ∧ s.ieReg = r.ieReset ∧ s.faulted = none ∧ s.params = r.params ∧
    (r.wramInit.length = 8192 → r.hramInit.length = 127 →
      (∀ k < 8192, s.byteAt (BitVec.ofNat 16 (0xC000 + k)) = r.wramInit[k]?) ∧
      (∀ k < 127, s.byteAt (BitVec.ofNat 16 (0xFF80 + k)) = r.hramInit[k]?))

/-- R62: the address decoder's table, with the external-RAM window at its default. -/
def Obligations.DecoderFollowsTheTable : Prop :=
  ∀ (p : Params) (a : Word), p.extRamFirst = 0xA000 → p.extRamLast = 0xBFFF →
    let n := a.toNat
    (region p a = .cartridge ↔ n ≤ 0x7FFF ∨ 0xA000 ≤ n ∧ n ≤ 0xBFFF) ∧
    (region p a = .workRam ↔ 0xC000 ≤ n ∧ n ≤ 0xDFFF) ∧
    (region p a = .echo ↔ 0xE000 ≤ n ∧ n ≤ 0xFDFF) ∧
    (region p a = .serialStub ↔ n = 0xFF01 ∨ n = 0xFF02) ∧
    (region p a = .interruptFlag ↔ n = 0xFF0F) ∧
    (region p a = .soundStub ↔ 0xFF10 ≤ n ∧ n ≤ 0xFF26) ∧
    (region p a = .video ↔ 0xFF40 ≤ n ∧ n ≤ 0xFF4A) ∧
    (region p a = .highRam ↔ 0xFF80 ≤ n ∧ n ≤ 0xFFFE) ∧
    (region p a = .interruptEnable ↔ n = 0xFFFF) ∧
    (region p a = .unmapped ↔
      0x8000 ≤ n ∧ n ≤ 0x9FFF ∨ 0xFE00 ≤ n ∧ n ≤ 0xFF00 ∨ 0xFF03 ≤ n ∧ n ≤ 0xFF0E ∨ 0xFF27 ≤ n ∧ n ≤ 0xFF3F ∨
      0xFF4B ≤ n ∧ n ≤ 0xFF7F)

/-- R69, and the same of work RAM: a byte written to RAM, IF or IE reads back whole, all 8 bits; a write leaves every other byte and
all else alone but the record of the access, and a read leaves everything alone but that; the echo at 0xE000 + i is the byte at
0xC000 + i, and 0xDE00 to 0xDFFF have no echo. -/
def Obligations.StorageReadsBackThroughEitherAlias : Prop :=
  ∀ (s : State) (a x : Word) (v : Byte),
    (coreOwned s.params a → (s.afterWrite a v).byteAt a = some v ∧
      (s.afterWrite a v).readValue a = v ∧
      (∃ w, s.byteAt a = some w ∧ s.readValue a = w ∧
        ∀ kind, s.afterRead kind a = { s with trace := s.trace ++ [⟨kind, a, w⟩] })) ∧
    (let t := s.afterWrite a v
     t = { s with
       ram := t.ram, ifReg := t.ifReg, ieReg := t.ieReg, answers := t.answers, trace := s.trace ++ [⟨.write, a, v⟩] } ∧
     (coreOwned s.params a → t.answers = s.answers)) ∧
    (¬ sameCell s.params x a → (s.afterWrite a v).byteAt x = s.byteAt x) ∧
    (∀ i < 0x1E00,
      (s.afterWrite (BitVec.ofNat 16 (0xE000 + i)) v).byteAt (BitVec.ofNat 16 (0xC000 + i)) = some v ∧
      (s.afterWrite (BitVec.ofNat 16 (0xC000 + i)) v).byteAt (BitVec.ofNat 16 (0xE000 + i)) = some v) ∧
    (∀ i, 0x1E00 ≤ i → i < 0x2000 → x ≠ BitVec.ofNat 16 (0xC000 + i) →
      (s.afterWrite (BitVec.ofNat 16 (0xC000 + i)) v).byteAt x = s.byteAt x)

/-- A 16-bit write to two bytes the core stores, then a 16-bit read of the same address, gives the value back, at any alignment and across
0xFFFF (spec/20_memory.md, section 5; the rule there is marked as derived). -/
def Obligations.SixteenBitStoreThenLoadGivesTheValue : Prop :=
  ∀ (s : State) (a v : Word), coreOwned s.params a → coreOwned s.params (a + 1) →
    ∃ u, (∀ k, withWrite16 a v s (fun t => withRead16 a t k) = k v u) ∧ Stored16 s u a v

/-- The cartridge, the video window and the stubs: no access faults; a write changes no state of the core, and is recorded once; a read
gives the collaborator's next promised answer, used up by it, or else a draw of what went before, and is recorded once. No read has to
be answered as an earlier one was, and a write withdraws its collaborator's promises, so that every transaction is free to have an
effect on every later answer; the other collaborator's promises stay; a stub promises nothing (spec/20_memory.md, sections 2 and 3.
The promises and what a draw depends on are the model's own: notes/assumptions/5.md). -/
def Obligations.CollaboratorWritesChangeNothingInTheCore : Prop :=
  ∀ (s : State) (a : Word) (v : Byte) (kind : Access),
    let r := region s.params a
    (r = .cartridge ∨ r = .video ∨ r = .serialStub ∨ r = .soundStub) →
    s.accessible a = true ∧ s.byteAt a = none ∧
    (let t := s.afterWrite a v
     t = { s with answers := t.answers, trace := s.trace ++ [⟨.write, a, v⟩] } ∧ t.answers.promised r = [] ∧
     (∀ q, q ≠ r → t.answers.promised q = s.answers.promised q) ∧
     t.readValue a = Config.freeByte s.steps (s.past ++ s.trace ++ [⟨.write, a, v⟩]) a) ∧
    (let t := s.afterRead kind a
     t = { s with answers := t.answers, trace := s.trace ++ [⟨kind, a, s.readValue a⟩] } ∧
     t.answers.promised r = (s.answers.promised r).tail ∧
     (∀ q, q ≠ r → t.answers.promised q = s.answers.promised q)) ∧
    (∀ w rest, s.answers.promised r = w :: rest → s.readValue a = w) ∧
    (s.answers.promised r = [] → s.readValue a = Config.freeByte s.steps (s.past ++ s.trace) a) ∧
    (r = .serialStub ∨ r = .soundStub → s.answers.promised r = [])

/-- An access to an unmapped address raises UnmappedAddress with the address, the kind and the instruction's start under the fatal
policy; under open bus a read gives OPEN_BUS_BYTE and a write has no effect (spec/20_memory.md, section 2). (That an open-bus access
stands in the bus trace is the model's choice, on which the spec says nothing: notes/assumptions/11.md.) -/
def Obligations.UnmappedAccessFollowsThePolicy : Prop :=
  ∀ (s : State) (a : Word) (v : Byte) (kr : Byte → State → Out) (kw : State → Out), region s.params a = .unmapped →
    (s.params.unmappedPolicy = .fatal →
      withRead a s kr = .fault (.unmappedAddress a .read s.pcStart (faultedAt s a .read)) ∧
      withWrite a v s kw = .fault (.unmappedAddress a .write s.pcStart (faultedAt s a .write)) ∧
      (s.pc = a → withFetch s kr = .fault (.unmappedAddress a .fetch s.pcStart (faultedAt s a .fetch)))) ∧
    (s.params.unmappedPolicy = .openBus →
      withRead a s kr = kr s.params.openBusByte { s with trace := s.trace ++ [⟨.read, a, s.params.openBusByte⟩] } ∧
      withWrite a v s kw = kw { s with trace := s.trace ++ [⟨.write, a, v⟩] } ∧
      (s.pc = a → withFetch s kr = kr s.params.openBusByte
        { s with pc := s.pc + 1, trace := s.trace ++ [⟨.fetch, a, s.params.openBusByte⟩] }))

/-- Whatever moves the host makes between two steps, it only sets bits 4:0 of IF, clears stopped and changes the collaborators' answers:
every register, IE, RAM, IME, halted and the fault record stay (spec/60_exceptions.md, section 7). -/
def Obligations.HostMovesReachOnlyTheirOwnState : Prop :=
  ∀ (s : State),
    let t := s.takeInbox
    t = { s with ifReg := t.ifReg, stopped := t.stopped, answers := t.answers, inbox := s.inbox.tail } ∧
    s.ifReg &&& t.ifReg = s.ifReg ∧ t.ifReg &&& 0xE0 = s.ifReg &&& 0xE0 ∧
    (t.stopped = true → s.stopped = true) ∧ (s.inbox = [] → t = s) ∧
    (∀ m moves, s.inbox = [.raise m] :: moves → t = { s with ifReg := s.ifReg ||| m.setWidth 8, inbox := moves })

/-! 8-bit ALU and flag instructions. -/

/-- R170, R177 to R182: ADD and ADC, with a register, the byte at HL and an immediate. -/
def Obligations.AddAndAdcComputeTheSum : Prop :=
  ∀ (s : State) (r : Reg8) (n : Byte),
    Encoded (Forms.aluReg .add r) [0x80 + r8Code r] ∧ Encoded .addAMemHl [0x86] ∧ Encoded (.addAN8 n) [0xC6, n] ∧
    Encoded (Forms.aluReg .adc r) [0x88 + r8Code r] ∧ Encoded .adcAMemHl [0x8E] ∧ Encoded (.adcAN8 n) [0xCE, n] ∧
    ChangesAF (Forms.aluReg .add r) s 4 (AddResult s.a (s.reg r) false) ∧
    ReadsHlChangesAF .addAMemHl s 8 (fun v => AddResult s.a v false) ∧
    ChangesAF (.addAN8 n) s 8 (AddResult s.a n false) ∧
    ChangesAF (Forms.aluReg .adc r) s 4 (AddResult s.a (s.reg r) s.flagC) ∧
    ReadsHlChangesAF .adcAMemHl s 8 (fun v => AddResult s.a v s.flagC) ∧
    ChangesAF (.adcAN8 n) s 8 (AddResult s.a n s.flagC)

/-- R171, R183 to R188: SUB and SBC, with a register, the byte at HL and an immediate. -/
def Obligations.SubAndSbcComputeTheDifference : Prop :=
  ∀ (s : State) (r : Reg8) (n : Byte),
    Encoded (Forms.aluReg .sub r) [0x90 + r8Code r] ∧ Encoded .subMemHl [0x96] ∧ Encoded (.subN8 n) [0xD6, n] ∧
    Encoded (Forms.aluReg .sbc r) [0x98 + r8Code r] ∧ Encoded .sbcAMemHl [0x9E] ∧ Encoded (.sbcAN8 n) [0xDE, n] ∧
    ChangesAF (Forms.aluReg .sub r) s 4 (SubResult s.a (s.reg r) false) ∧
    ReadsHlChangesAF .subMemHl s 8 (fun v => SubResult s.a v false) ∧
    ChangesAF (.subN8 n) s 8 (SubResult s.a n false) ∧
    ChangesAF (Forms.aluReg .sbc r) s 4 (SubResult s.a (s.reg r) s.flagC) ∧
    ReadsHlChangesAF .sbcAMemHl s 8 (fun v => SubResult s.a v s.flagC) ∧
    ChangesAF (.sbcAN8 n) s 8 (SubResult s.a n s.flagC)

/-- R189 to R191: CP sets the flags of the subtraction and leaves A. -/
def Obligations.CompareSetsTheFlagsOfSubAndKeepsA : Prop :=
  ∀ (s : State) (r : Reg8) (n : Byte),
    Encoded (Forms.aluReg .cp r) [0xB8 + r8Code r] ∧ Encoded .cpMemHl [0xBE] ∧ Encoded (.cpN8 n) [0xFE, n] ∧
    ChangesAF (Forms.aluReg .cp r) s 4 (fun t => t.a = s.a ∧ SubFlags s.a (s.reg r) false t) ∧
    ReadsHlChangesAF .cpMemHl s 8 (fun v t => t.a = s.a ∧ SubFlags s.a v false t) ∧
    ChangesAF (.cpN8 n) s 8 (fun t => t.a = s.a ∧ SubFlags s.a n false t)

/-- R172 to R174, R192 to R200: AND, OR and XOR, with a register, the byte at HL and an immediate. -/
def Obligations.LogicOperationsSetTheirFlags : Prop :=
  ∀ (s : State) (r : Reg8) (n : Byte),
    Encoded (Forms.aluReg .and r) [0xA0 + r8Code r] ∧ Encoded .andMemHl [0xA6] ∧ Encoded (.andN8 n) [0xE6, n] ∧
    Encoded (Forms.aluReg .or r) [0xB0 + r8Code r] ∧ Encoded .orMemHl [0xB6] ∧ Encoded (.orN8 n) [0xF6, n] ∧
    Encoded (Forms.aluReg .xor r) [0xA8 + r8Code r] ∧ Encoded .xorMemHl [0xAE] ∧ Encoded (.xorN8 n) [0xEE, n] ∧
    ChangesAF (Forms.aluReg .and r) s 4 (LogicResult (s.a &&& s.reg r) True) ∧
    ReadsHlChangesAF .andMemHl s 8 (fun v => LogicResult (s.a &&& v) True) ∧
    ChangesAF (.andN8 n) s 8 (LogicResult (s.a &&& n) True) ∧
    ChangesAF (Forms.aluReg .or r) s 4 (LogicResult (s.a ||| s.reg r) False) ∧
    ReadsHlChangesAF .orMemHl s 8 (fun v => LogicResult (s.a ||| v) False) ∧
    ChangesAF (.orN8 n) s 8 (LogicResult (s.a ||| n) False) ∧
    ChangesAF (Forms.aluReg .xor r) s 4 (LogicResult (s.a ^^^ s.reg r) False) ∧
    ReadsHlChangesAF .xorMemHl s 8 (fun v => LogicResult (s.a ^^^ v) False) ∧
    ChangesAF (.xorN8 n) s 8 (LogicResult (s.a ^^^ n) False)

/-- R175, R176, R201 to R204: 8-bit INC and DEC wrap, set Z, N and H, and never change C. -/
def Obligations.IncAndDecKeepTheCarry : Prop :=
  ∀ (s : State) (r : Reg8),
    Encoded (Forms.incReg r) [0x04 + 8 * r8Code r] ∧ Encoded .incMemHl [0x34] ∧
    Encoded (Forms.decReg r) [0x05 + 8 * r8Code r] ∧ Encoded .decMemHl [0x35] ∧
    (∃ t, exec (Forms.incReg r) s = .next t ∧ (t.reg r).toNat = ((s.reg r).toNat + 1) % 256 ∧ IncFlags s (s.reg r) t ∧
      SameMemory s t ∧ t = { s.setReg r (t.reg r) with f := t.f, cycles := 4 }) ∧
    (∃ t, exec (Forms.decReg r) s = .next t ∧ (t.reg r).toNat = ((s.reg r).toNat + 255) % 256 ∧ DecFlags s (s.reg r) t ∧
      SameMemory s t ∧ t = { s.setReg r (t.reg r) with f := t.f, cycles := 4 }) ∧
    RewritesHl .incMemHl s 12 (fun v => BitVec.ofNat 8 ((v.toNat + 1) % 256)) (IncFlags s) ∧
    RewritesHl .decMemHl s 12 (fun v => BitVec.ofNat 8 ((v.toNat + 255) % 256)) (DecFlags s)

/-- R205: DAA, for every A and every combination of N, H and C. -/
def Obligations.DaaAdjustsAsItsTable : Prop :=
  ∀ (s : State),
    Encoded .daa [0x27] ∧
    ChangesAF .daa s 4 (fun t =>
      t.a.toNat = (daaValue s.a.toNat s.flagN s.flagH s.flagC).1 ∧
      FlagsAre t (t.a = 0) (s.flagN = true) False ((daaValue s.a.toNat s.flagN s.flagH s.flagC).2 = true))

/-- Decimal arithmetic: after ADD or SUB of two two-digit decimal bytes, DAA leaves the decimal sum or difference modulo 100, with C for
the decimal carry or borrow (spec/41_alu8.md, section 11). -/
def Obligations.DaaMakesDecimalSumsAndDifferences : Prop :=
  ∀ (s : State) (n : Byte), IsBcd s.a → IsBcd n →
    (∃ t u, exec (.addAN8 n) s = .next t ∧ exec .daa t = .next u ∧ IsBcd u.a ∧
      bcdValue u.a = (bcdValue s.a + bcdValue n) % 100 ∧ (u.flagC = true ↔ bcdValue s.a + bcdValue n ≥ 100)) ∧
    (∃ t u, exec (.subN8 n) s = .next t ∧ exec .daa t = .next u ∧ IsBcd u.a ∧
      bcdValue u.a = (bcdValue s.a + 100 - bcdValue n) % 100 ∧ (u.flagC = true ↔ bcdValue s.a < bcdValue n))

/-- R206, R207, R208: CPL, SCF and CCF, with the flags each keeps. -/
def Obligations.ComplementAndCarryInstructions : Prop :=
  ∀ (s : State),
    Encoded .cpl [0x2F] ∧ Encoded .scf [0x37] ∧ Encoded .ccf [0x3F] ∧
    ChangesAF .cpl s 4 (fun t =>
      t.a.toNat = 255 - s.a.toNat ∧ FlagsAre t (s.flagZ = true) True True (s.flagC = true)) ∧
    ChangesAF .scf s 4 (fun t => t.a = s.a ∧ FlagsAre t (s.flagZ = true) False False True) ∧
    ChangesAF .ccf s 4 (fun t => t.a = s.a ∧ FlagsAre t (s.flagZ = true) False False (s.flagC = false))

/-! 16-bit arithmetic. -/

/-- R232, R233: INC rr and DEC rr wrap modulo 65536 and change no flag. -/
def Obligations.PairIncAndDecChangeNoFlag : Prop :=
  ∀ (s : State) (p : Pair),
    Encoded (Forms.incPair p) [0x03 + 16 * rpCode p] ∧ Encoded (Forms.decPair p) [0x0B + 16 * rpCode p] ∧
    (∃ t, exec (Forms.incPair p) s = .next t ∧ (t.pair p).toNat = ((s.pair p).toNat + 1) % 65536 ∧ SameMemory s t ∧
      t = { s.setPair p (t.pair p) with cycles := 8 }) ∧
    (∃ t, exec (Forms.decPair p) s = .next t ∧ (t.pair p).toNat = ((s.pair p).toNat + 65535) % 65536 ∧ SameMemory s t ∧
      t = { s.setPair p (t.pair p) with cycles := 8 })

/-- R230, R234: ADD HL,rr keeps Z, clears N, and takes H from bit 11 and C from bit 15. -/
def Obligations.AddHlTakesCarriesFromBits11And15 : Prop :=
  ∀ (s : State) (p : Pair),
    Encoded (Forms.addHl p) [0x09 + 16 * rpCode p] ∧
    ∃ t, exec (Forms.addHl p) s = .next t ∧ t.hl.toNat = (s.hl.toNat + (s.pair p).toNat) % 65536 ∧
      FlagsAre t (s.flagZ = true) False (s.hl.toNat % 4096 + (s.pair p).toNat % 4096 > 0x0FFF)
        (s.hl.toNat + (s.pair p).toNat > 0xFFFF) ∧
      SameMemory s t ∧ t = { s with h := t.h, l := t.l, f := t.f, cycles := 8 }

/-- R231, R235, R334: ADD SP,e and LD HL,SP+e add the signed displacement; H and C come from the unsigned low-byte addition, Z and N are
cleared. -/
def Obligations.StackPointerDisplacementForms : Prop :=
  ∀ (s : State) (e : Byte),
    Encoded (.addSpE8 e) [0xE8, e] ∧ Encoded (.ldHlSpE8 e) [0xF8, e] ∧
    (∃ t, exec (.addSpE8 e) s = .next t ∧ (t.sp.toNat : Int) = (s.sp.toNat + signed e) % 65536 ∧ AddSpFlags s.sp e t ∧
      SameMemory s t ∧ t = { s with sp := t.sp, f := t.f, cycles := 16 }) ∧
    (∃ t, exec (.ldHlSpE8 e) s = .next t ∧ (t.hl.toNat : Int) = (s.sp.toNat + signed e) % 65536 ∧ AddSpFlags s.sp e t ∧
      SameMemory s t ∧ t = { s with h := t.h, l := t.l, f := t.f, cycles := 12 })

/-! Rotates, shifts and bit operations. -/

/-- R258 to R261: RLCA, RRCA, RLA and RRA rotate A and always clear Z. -/
def Obligations.AccumulatorRotatesClearZ : Prop :=
  ∀ (s : State),
    Encoded .rlca [0x07] ∧ Encoded .rrca [0x0F] ∧ Encoded .rla [0x17] ∧ Encoded .rra [0x1F] ∧
    ChangesAF .rlca s 4 (fun t => t.a.toNat = shifted .rlc s.a s.flagC ∧ FlagsAre t False False False (shiftCarry .rlc s.a)) ∧
    ChangesAF .rrca s 4 (fun t => t.a.toNat = shifted .rrc s.a s.flagC ∧ FlagsAre t False False False (shiftCarry .rrc s.a)) ∧
    ChangesAF .rla s 4 (fun t => t.a.toNat = shifted .rl s.a s.flagC ∧ FlagsAre t False False False (shiftCarry .rl s.a)) ∧
    ChangesAF .rra s 4 (fun t => t.a.toNat = shifted .rr s.a s.flagC ∧ FlagsAre t False False False (shiftCarry .rr s.a))

/-- R250 to R253, R262 to R269: RLC, RRC, RL and RR on a register and on the byte at HL. -/
def Obligations.ExtendedRotatesRotateByOne : Prop :=
  ∀ (s : State) (r : Reg8),
    ShiftsRegister .rlc r s ∧ ShiftsMemory .rlc s ∧ ShiftsRegister .rrc r s ∧ ShiftsMemory .rrc s ∧
    ShiftsRegister .rl r s ∧ ShiftsMemory .rl s ∧ ShiftsRegister .rr r s ∧ ShiftsMemory .rr s

/-- R254 to R257, R270 to R277: SLA, SRA, SWAP and SRL on a register and on the byte at HL. -/
def Obligations.ExtendedShiftsShiftByOne : Prop :=
  ∀ (s : State) (r : Reg8),
    ShiftsRegister .sla r s ∧ ShiftsMemory .sla s ∧ ShiftsRegister .sra r s ∧ ShiftsMemory .sra s ∧
    ShiftsRegister .swap r s ∧ ShiftsMemory .swap s ∧ ShiftsRegister .srl r s ∧ ShiftsMemory .srl s

/-- R278, R279: BIT sets Z to the complement of the bit, clears N, sets H, and keeps C, the operand and everything else. -/
def Obligations.BitTestSetsZToTheComplement : Prop :=
  ∀ (s : State) (i : Fin 8) (r : Reg8),
    Encoded (Forms.testBitReg i r) [0xCB, 0x40 + BitVec.ofNat 8 (8 * i.val) + r8Code r] ∧
    Encoded (Forms.testBitMem i) [0xCB, 0x46 + BitVec.ofNat 8 (8 * i.val)] ∧
    ChangesAF (Forms.testBitReg i r) s 8 (fun t =>
      t.a = s.a ∧ FlagsAre t ((s.reg r).toNat / 2 ^ i.val % 2 = 0) False True (s.flagC = true)) ∧
    ReadsHlChangesAF (Forms.testBitMem i) s 12 (fun v t =>
      t.a = s.a ∧ FlagsAre t (v.toNat / 2 ^ i.val % 2 = 0) False True (s.flagC = true))

/-- R280 to R283: RES clears and SET sets one bit of the operand, leaves its other bits, and changes no flag. -/
def Obligations.ResAndSetChangeOneBit : Prop :=
  ∀ (s : State) (i : Fin 8) (r : Reg8),
    Encoded (Forms.clearBitReg i r) [0xCB, 0x80 + BitVec.ofNat 8 (8 * i.val) + r8Code r] ∧
    Encoded (Forms.clearBitMem i) [0xCB, 0x86 + BitVec.ofNat 8 (8 * i.val)] ∧
    Encoded (Forms.raiseBitReg i r) [0xCB, 0xC0 + BitVec.ofNat 8 (8 * i.val) + r8Code r] ∧
    Encoded (Forms.raiseBitMem i) [0xCB, 0xC6 + BitVec.ofNat 8 (8 * i.val)] ∧
    (∃ t, exec (Forms.clearBitReg i r) s = .next t ∧
      (∀ j < 8, (t.reg r).getLsbD j = if j = i.val then false else (s.reg r).getLsbD j) ∧
      SameMemory s t ∧ t = { s.setReg r (t.reg r) with cycles := 8 }) ∧
    (∃ t, exec (Forms.raiseBitReg i r) s = .next t ∧
      (∀ j < 8, (t.reg r).getLsbD j = if j = i.val then true else (s.reg r).getLsbD j) ∧
      SameMemory s t ∧ t = { s.setReg r (t.reg r) with cycles := 8 }) ∧
    (∃ w : Byte → Byte, (∀ v, ∀ j < 8, (w v).getLsbD j = if j = i.val then false else v.getLsbD j) ∧
      RewritesHl (Forms.clearBitMem i) s 16 w (fun _ t => t.f = s.f)) ∧
    (∃ w : Byte → Byte, (∀ v, ∀ j < 8, (w v).getLsbD j = if j = i.val then true else v.getLsbD j) ∧
      RewritesHl (Forms.raiseBitMem i) s 16 w (fun _ t => t.f = s.f))

/-- The prefix row: the base table's entry 0xCB runs the extended instruction that its second byte names, and the two together are one
instruction whose bytes decode to that one; on a register operand it completes, and on the byte at HL wherever HL is mapped
(spec/40_dispatcher.md, section 4). -/
def Obligations.PrefixRunsTheExtendedInstruction : Prop :=
  ∀ (s : State) (p : Byte),
    (∃ i, decode [0xCB, p] = .ok (i, []) ∧ exec (.prefixCb p) s = exec i s) ∧
    ((p.toNat % 8 ≠ 6 ∨ s.accessible s.hl = true) → ∃ t, exec (.prefixCb p) s = .next t ∧ t.pc = s.pc ∧ t.sp = s.sp ∧ t.ime = s.ime)

/-! 8-bit loads and stores. -/

/-- R290, R291, R292: loads of a register from a register, an immediate and the byte at HL (the old HL); a register loaded with itself
changes nothing. -/
def Obligations.RegisterLoadsCopyTheOperand : Prop :=
  ∀ (s : State) (dst src : Reg8) (n : Byte),
    Encoded (Forms.loadReg dst src) [0x40 + 8 * r8Code dst + r8Code src] ∧
    Encoded (Forms.loadImm dst n) [0x06 + 8 * r8Code dst, n] ∧
    Encoded (Forms.loadMem dst) [0x46 + 8 * r8Code dst] ∧
    exec (Forms.loadReg dst src) s = .next { s.setReg dst (s.reg src) with cycles := 4 } ∧
    SameMemory s (s.setReg dst (s.reg src)) ∧
    exec (Forms.loadReg dst dst) s = .next { s with cycles := 4 } ∧
    exec (Forms.loadImm dst n) s = .next { s.setReg dst n with cycles := 8 } ∧
    SameMemory s (s.setReg dst n) ∧
    LoadsByte (Forms.loadMem dst) s 8 dst s.hl

/-- R293, R294: stores of a register and of an immediate at HL. -/
def Obligations.StoresAtHl : Prop :=
  ∀ (s : State) (r : Reg8) (n : Byte),
    Encoded (Forms.storeMem r) [0x70 + r8Code r] ∧ Encoded (.ldMemHlN8 n) [0x36, n] ∧
    StoresByte (Forms.storeMem r) s 8 s.hl (s.reg r) ∧ StoresByte (.ldMemHlN8 n) s 12 s.hl n

/-- R295, R296, R299, R301, R303: the loads of A from BC, DE, an absolute address, and the high page at n and at C. -/
def Obligations.AccumulatorLoads : Prop :=
  ∀ (s : State) (n : Byte) (nn : Word),
    Encoded .ldAMemBc [0x0A] ∧ Encoded .ldAMemDe [0x1A] ∧ Encoded (.ldAMemN16 nn) [0xFA, loByte nn, hiByte nn] ∧
    Encoded (.ldhAMemN8 n) [0xF0, n] ∧ Encoded .ldAMemC [0xF2] ∧
    LoadsByte .ldAMemBc s 8 .a s.bc ∧ LoadsByte .ldAMemDe s 8 .a s.de ∧ LoadsByte (.ldAMemN16 nn) s 16 .a nn ∧
    LoadsByte (.ldhAMemN8 n) s 12 .a (BitVec.ofNat 16 (0xFF00 + n.toNat)) ∧
    LoadsByte .ldAMemC s 8 .a (BitVec.ofNat 16 (0xFF00 + s.c.toNat))

/-- R297, R298, R300, R302, R304: the stores of A at BC, DE, an absolute address, and the high page at n and at C. -/
def Obligations.AccumulatorStores : Prop :=
  ∀ (s : State) (n : Byte) (nn : Word),
    Encoded .ldMemBcA [0x02] ∧ Encoded .ldMemDeA [0x12] ∧ Encoded (.ldMemN16A nn) [0xEA, loByte nn, hiByte nn] ∧
    Encoded (.ldhMemN8A n) [0xE0, n] ∧ Encoded .ldMemCA [0xE2] ∧
    StoresByte .ldMemBcA s 8 s.bc s.a ∧ StoresByte .ldMemDeA s 8 s.de s.a ∧ StoresByte (.ldMemN16A nn) s 16 nn s.a ∧
    StoresByte (.ldhMemN8A n) s 12 (BitVec.ofNat 16 (0xFF00 + n.toNat)) s.a ∧
    StoresByte .ldMemCA s 8 (BitVec.ofNat 16 (0xFF00 + s.c.toNat)) s.a

/-- R305 to R308: the post-increment and post-decrement forms; HL moves by one modulo 65536 after the access, and not at all on a fault. -/
def Obligations.PostIncrementAndDecrementForms : Prop :=
  ∀ (s : State),
    Encoded .ldMemHlIncA [0x22] ∧ Encoded .ldMemHlDecA [0x32] ∧ Encoded .ldAMemHlInc [0x2A] ∧ Encoded .ldAMemHlDec [0x3A] ∧
    (s.accessible s.hl = true →
      (∃ t, exec .ldMemHlIncA s = .next t ∧ Stored s t s.hl s.a ∧ t.hl.toNat = (s.hl.toNat + 1) % 65536 ∧
        t = { s with
              h := t.h, l := t.l, ram := t.ram, ifReg := t.ifReg, ieReg := t.ieReg, cycles := 8
              answers := s.answers.withdrawn (region s.params s.hl)
              trace := s.trace ++ [⟨.write, s.hl, s.a⟩] }) ∧
      (∃ t, exec .ldMemHlDecA s = .next t ∧ Stored s t s.hl s.a ∧ t.hl.toNat = (s.hl.toNat + 65535) % 65536 ∧
        t = { s with
              h := t.h, l := t.l, ram := t.ram, ifReg := t.ifReg, ieReg := t.ieReg, cycles := 8
              answers := s.answers.withdrawn (region s.params s.hl)
              trace := s.trace ++ [⟨.write, s.hl, s.a⟩] }) ∧
      (∃ t, exec .ldAMemHlInc s = .next t ∧ t.a = s.readValue s.hl ∧ t.hl.toNat = (s.hl.toNat + 1) % 65536 ∧ SameMemory s t ∧
        t = { s.afterRead .read s.hl with a := t.a, h := t.h, l := t.l, cycles := 8 }) ∧
      (∃ t, exec .ldAMemHlDec s = .next t ∧ t.a = s.readValue s.hl ∧ t.hl.toNat = (s.hl.toNat + 65535) % 65536 ∧
        SameMemory s t ∧ t = { s.afterRead .read s.hl with a := t.a, h := t.h, l := t.l, cycles := 8 })) ∧
    FaultsAt .ldMemHlIncA s s.hl .write ∧ FaultsAt .ldMemHlDecA s s.hl .write ∧
    FaultsAt .ldAMemHlInc s s.hl .read ∧ FaultsAt .ldAMemHlDec s s.hl .read

/-! 16-bit loads and the stack. -/

/-- R331, R333: LD rr,nn gives the low register the first immediate byte and the high register the second; LD SP,HL copies HL. -/
def Obligations.PairLoadsSplitTheImmediate : Prop :=
  ∀ (s : State) (p : Pair) (lo hi : Byte),
    Encoded (Forms.loadPairImm p (wordOf hi lo)) [0x01 + 16 * rpCode p, lo, hi] ∧ Encoded .ldSpHl [0xF9] ∧
    exec (.ldBcN16 (wordOf hi lo)) s = .next { s with b := hi, c := lo, cycles := 12 } ∧
    exec (.ldDeN16 (wordOf hi lo)) s = .next { s with d := hi, e := lo, cycles := 12 } ∧
    exec (.ldHlN16 (wordOf hi lo)) s = .next { s with h := hi, l := lo, cycles := 12 } ∧
    exec (.ldSpN16 (wordOf hi lo)) s = .next { s with sp := BitVec.ofNat 16 (256 * hi.toNat + lo.toNat), cycles := 12 } ∧
    (∃ t, exec (Forms.loadPairImm p (wordOf hi lo)) s = .next t ∧ (t.pair p).toNat = 256 * hi.toNat + lo.toNat ∧ SameMemory s t) ∧
    exec .ldSpHl s = .next { s with sp := BitVec.ofNat 16 (256 * s.h.toNat + s.l.toNat), cycles := 8 }

/-- R332, R335, R336: LD (nn),SP, PUSH rr and PUSH AF store a 16-bit value, low byte first, and a push first takes 2 from SP. -/
def Obligations.PushAndStoreSpWriteLowByteFirst : Prop :=
  ∀ (s : State) (p : StackPair) (nn : Word),
    Encoded (.ldMemN16Sp nn) [0x08, loByte nn, hiByte nn] ∧ Encoded (Forms.pushPair p) [0xC5 + 16 * rp2Code p] ∧
    StoresWord (.ldMemN16Sp nn) s s 20 nn s.sp s.pc ∧
    Pushes .pushBc s 16 (wordOf s.b s.c) s.pc ∧ Pushes .pushDe s 16 (wordOf s.d s.e) s.pc ∧
    Pushes .pushHl s 16 (wordOf s.h s.l) s.pc ∧ Pushes .pushAf s 16 (wordOf s.a s.f) s.pc

/-- R337, R338: POP loads a pair from the stack; POP AF masks F's bits 3:0 and loads all four flags. -/
def Obligations.PopLoadsThePairAndMasksF : Prop :=
  ∀ (s : State) (p : StackPair),
    Encoded (Forms.popPair p) [0xC1 + 16 * rp2Code p] ∧
    Pops .popBc s 12 (fun v t => { t with b := hiByte v, c := loByte v }) ∧
    Pops .popDe s 12 (fun v t => { t with d := hiByte v, e := loByte v }) ∧
    Pops .popHl s 12 (fun v t => { t with h := hiByte v, l := loByte v }) ∧
    Pops .popAf s 12 (fun v t => { t with a := hiByte v, f := loByte v &&& 0xF0 })

/-! Control transfer. -/

/-- R360 to R365: the jumps. A condition not met leaves PC after the instruction. -/
def Obligations.JumpsSetPc : Prop :=
  ∀ (s : State) (cc : Cond) (nn : Word) (e : Byte),
    Encoded (.jpN16 nn) [0xC3, loByte nn, hiByte nn] ∧ Encoded .jpHl [0xE9] ∧ Encoded (.jrE8 e) [0x18, e] ∧
    Encoded (Forms.jumpAbsIf cc nn) [0xC2 + 8 * ccCode cc, loByte nn, hiByte nn] ∧
    Encoded (Forms.jumpRelIf cc e) [0x20 + 8 * ccCode cc, e] ∧
    exec (.jpN16 nn) s = .next { s with pc := nn, cycles := 16 } ∧
    exec .jpHl s = .next { s with pc := s.hl, cycles := 4 } ∧
    (ccMeans cc s → exec (Forms.jumpAbsIf cc nn) s = .next { s with pc := nn, cycles := 16 }) ∧
    (¬ ccMeans cc s → exec (Forms.jumpAbsIf cc nn) s = .next { s with cycles := 12 }) ∧
    (∃ target : Word, (target.toNat : Int) = (s.pc.toNat + signed e) % 65536 ∧
      exec (.jrE8 e) s = .next { s with pc := target, cycles := 12 } ∧
      (ccMeans cc s → exec (Forms.jumpRelIf cc e) s = .next { s with pc := target, cycles := 12 })) ∧
    (¬ ccMeans cc s → exec (Forms.jumpRelIf cc e) s = .next { s with cycles := 8 })

/-- R366, R367, R371: CALL and RST push the address after the instruction and jump; a call not taken touches no stack. -/
def Obligations.CallsPushTheReturnAddress : Prop :=
  ∀ (s : State) (cc : Cond) (nn : Word) (t : Fin 8),
    Encoded (.callN16 nn) [0xCD, loByte nn, hiByte nn] ∧
    Encoded (Forms.callAbsIf cc nn) [0xC4 + 8 * ccCode cc, loByte nn, hiByte nn] ∧
    Encoded (Forms.restart t) [0xC7 + BitVec.ofNat 8 (8 * t.val)] ∧
    Pushes (.callN16 nn) s 24 s.pc nn ∧
    (ccMeans cc s → Pushes (Forms.callAbsIf cc nn) s 24 s.pc nn) ∧
    (¬ ccMeans cc s → exec (Forms.callAbsIf cc nn) s = .next { s with cycles := 12 }) ∧
    Pushes (Forms.restart t) s 16 s.pc (BitVec.ofNat 16 (8 * t.val))

/-- R368, R369, R370: RET, RET cc and RETI pop PC; RETI also sets IME at once, whatever EI_DELAYED is. -/
def Obligations.ReturnsPopPc : Prop :=
  ∀ (s : State) (cc : Cond),
    Encoded .ret [0xC9] ∧ Encoded .reti [0xD9] ∧ Encoded (Forms.returnPopIf cc) [0xC0 + 8 * ccCode cc] ∧
    Pops .ret s 16 (fun v t => { t with pc := v }) ∧
    (ccMeans cc s → Pops (Forms.returnPopIf cc) s 20 (fun v t => { t with pc := v })) ∧
    (¬ ccMeans cc s → exec (Forms.returnPopIf cc) s = .next { s with cycles := 8 }) ∧
    Pops .reti s 16 (fun v t => { t with pc := v, ime := true })

/-! System instructions. -/

/-- R390 to R394: NOP, HALT, STOP, DI and EI, with both settings of EI_DELAYED. -/
def Obligations.SystemInstructionsSetTheControlFlags : Prop :=
  ∀ (s : State) (x : Byte),
    Encoded .nop [0x00] ∧ Encoded .halt [0x76] ∧ Encoded (.stop x) [0x10, x] ∧ Encoded .di [0xF3] ∧ Encoded .ei [0xFB] ∧
    exec .nop s = .next { s with cycles := 4 } ∧
    exec .halt s = .next { s with halted := true, cycles := 4 } ∧
    exec (.stop x) s = .next { s with stopped := true, cycles := 4 } ∧
    exec .di s = .next { s with ime := false, eiPending := false, cycles := 4 } ∧
    (s.params.eiDelayed = true → s.ime = false → exec .ei s = .next { s with eiPending := true, cycles := 4 }) ∧
    (s.params.eiDelayed = true → s.ime = true → exec .ei s = .next { s with cycles := 4 }) ∧
    (s.params.eiDelayed = false → exec .ei s = .next { s with ime := true, cycles := 4 })
end

