-- ==== Sys2Proof/Laws/Bits.lean ====
section
/-! SUPPORT. The laws of the byte-order and bit-field helpers, and the bits of a flags byte. -/

namespace Sys2Proof.Machine

@[simp] theorem wordOf_bytes (v : Word) : wordOf (hiByte v) (loByte v) = v := by
  refine BitVec.eq_of_getLsbD_eq fun i hi => ?_
  simp only [wordOf, hiByte, loByte, BitVec.getLsbD_append, BitVec.getLsbD_extractLsb']
  by_cases h : i < 8
  · simp [h]
  · simp [h, show i - 8 < 8 by omega, show 8 + (i - 8) = i by omega]

@[simp] theorem hiByte_wordOf (h l : Byte) : hiByte (wordOf h l) = h := by
  refine BitVec.eq_of_getLsbD_eq fun i hi => ?_
  simp only [wordOf, hiByte, BitVec.getLsbD_append, BitVec.getLsbD_extractLsb']
  simp [hi]

@[simp] theorem loByte_wordOf (h l : Byte) : loByte (wordOf h l) = l := by
  refine BitVec.eq_of_getLsbD_eq fun i hi => ?_
  simp only [wordOf, loByte, BitVec.getLsbD_append, BitVec.getLsbD_extractLsb']
  simp [hi]

/-- The number that two bytes make (R7). -/
theorem toNat_wordOf (h l : Byte) : (wordOf h l).toNat = 256 * h.toNat + l.toNat := by
  have hl := l.isLt
  rw [wordOf, BitVec.toNat_append, Nat.shiftLeft_eq, ← Nat.shiftLeft_eq, ← Nat.shiftLeft_add_eq_or_of_lt hl,
    Nat.shiftLeft_eq]
  omega

theorem toNat_hiByte (w : Word) : (hiByte w).toNat = w.toNat / 256 := by
  have := w.isLt
  rw [hiByte, BitVec.extractLsb'_toNat, Nat.shiftRight_eq_div_pow]
  omega

theorem toNat_loByte (w : Word) : (loByte w).toNat = w.toNat % 256 := by
  simp [loByte, BitVec.extractLsb'_toNat]

/-- A displacement byte's value, in integers (R8). -/
theorem toInt_sext8 (e : Byte) : (sext8 e).toInt = if e.toNat ≥ 128 then (e.toNat : Int) - 256 else e.toNat := by
  rw [sext8, BitVec.toInt_signExtend_of_le (by decide), BitVec.toInt_eq_toNat_cond]
  split <;> split <;> omega

theorem flagsByte_z : ∀ z n h c : Bool, (flagsByte z n h c).getLsbD 7 = z := by decide
theorem flagsByte_n : ∀ z n h c : Bool, (flagsByte z n h c).getLsbD 6 = n := by decide
theorem flagsByte_h : ∀ z n h c : Bool, (flagsByte z n h c).getLsbD 5 = h := by decide
theorem flagsByte_c : ∀ z n h c : Bool, (flagsByte z n h c).getLsbD 4 = c := by decide

/-- The low nibble of four flags is 0 (R21). -/
theorem flagsByte_low : ∀ z n h c : Bool, flagsByte z n h c &&& 0x0F = 0 := by decide

@[simp] theorem flagsByte_low_nf : ∀ z n h c : Bool, flagsByte z n h c &&& 15#8 = 0#8 := by decide

/-- The low nibble of a byte written to F is 0 (R21). -/
theorem maskedF_low (v : Byte) : v &&& 0xF0 &&& 0x0F = 0 := by
  rw [BitVec.and_assoc]; simp

/-- What the sum and difference of two bytes are, in integers. -/
theorem toNat_add8 (a b : Byte) (cin : Bool) :
    (add8 a b cin).val.toNat = (a.toNat + b.toNat + cin.toNat) % 256 := by simp [add8]

theorem toNat_sub8 (a b : Byte) (cin : Bool) :
    ((sub8 a b cin).val.toNat : Int) = ((a.toNat : Int) - b.toNat - cin.toNat) % 256 := by
  simp [sub8, BitVec.toNat_ofInt]; omega

end Sys2Proof.Machine
end

