-- ==== Sys2Proof/Laws/Decode.lean ====
section
/-! SUPPORT. Every entry of the base table and of the extended table, taken back to its bytes: one lemma for each table, so that no
later proof goes through the 256 bytes again. -/

namespace Sys2Proof

open Sys2Proof.Machine

/-- The entry of an opcode byte makes well-formed instructions, and encodes to that byte and the immediate bytes after it (R110,
R114). -/
theorem baseEntry_encodes (o : Byte) :
    match baseEntry o with
    | .op i => i.wf = true ∧ encode i = [o]
    | .n8 mk => ∀ n, (mk n).wf = true ∧ encode (mk n) = [o, n]
    | .n16 mk => ∀ nn, (mk nn).wf = true ∧ encode (mk nn) = encodeN16 o nn
    | .extended => o = 0xCB := by
  have key : ∀ k : Fin 256,
      match baseEntry (BitVec.ofFin k) with
      | .op i => i.wf = true ∧ encode i = [BitVec.ofFin k]
      | .n8 mk => ∀ n, (mk n).wf = true ∧ encode (mk n) = [BitVec.ofFin k, n]
      | .n16 mk => ∀ nn, (mk nn).wf = true ∧ encode (mk nn) = encodeN16 (BitVec.ofFin k) nn
      | .extended => BitVec.ofFin k = (0xCB : Byte) := by
    intro k
    fin_cases k <;> first | exact ⟨rfl, rfl⟩ | exact fun _ => ⟨rfl, rfl⟩ | rfl
  exact key o.toFin

/-- The entry of an extended byte is well formed and encodes to the prefix and that byte (R111). -/
theorem extEntry_encodes : ∀ p : Byte, (extEntry p).wf = true ∧ encode (extEntry p) = [0xCB, p] := by decide +kernel

end Sys2Proof
end

