-- ==== Sys2Proof/Laws/Exec.lean ====
section
/-! SUPPORT. Every instruction's meaning is one of the shared meanings: a proof about all 502 instructions takes apart exec_meaning and
treats each shared meaning once. -/

namespace Sys2Proof.Machine

/-- What exec answers for an instruction: one of the shared meanings. The instructions that change IME, the enable latch, halted or
stopped, and the one that stops, are named. -/
inductive Meaning : Instr → State → Out → Prop
  | aluReg (i : Instr) (s : State) (op : AluOp) (r : Reg8) : Meaning i s (Machine.aluReg op r s)
  | aluMem (i : Instr) (s : State) (op : AluOp) : Meaning i s (Machine.aluMem op s)
  | aluImm (i : Instr) (s : State) (op : AluOp) (n : Byte) : Meaning i s (Machine.aluImm op n s)
  | incReg (i : Instr) (s : State) (r : Reg8) : Meaning i s (Machine.incReg r s)
  | decReg (i : Instr) (s : State) (r : Reg8) : Meaning i s (Machine.decReg r s)
  | incMem (i : Instr) (s : State) : Meaning i s (Machine.incMem s)
  | decMem (i : Instr) (s : State) : Meaning i s (Machine.decMem s)
  | decimalAdjust (i : Instr) (s : State) : Meaning i s (Machine.decimalAdjust s)
  | complementA (i : Instr) (s : State) : Meaning i s (Machine.complementA s)
  | setCarry (i : Instr) (s : State) : Meaning i s (Machine.setCarry s)
  | complementCarry (i : Instr) (s : State) : Meaning i s (Machine.complementCarry s)
  | rotateA (i : Instr) (s : State) (op : ShiftOp) : Meaning i s (Machine.rotateA op s)
  | shiftReg (i : Instr) (s : State) (op : ShiftOp) (r : Reg8) : Meaning i s (Machine.shiftReg op r s)
  | shiftMem (i : Instr) (s : State) (op : ShiftOp) : Meaning i s (Machine.shiftMem op s)
  | testBitReg (i : Instr) (s : State) (b : Fin 8) (r : Reg8) : Meaning i s (Machine.testBitReg b r s)
  | testBitMem (i : Instr) (s : State) (b : Fin 8) : Meaning i s (Machine.testBitMem b s)
  | clearBitReg (i : Instr) (s : State) (b : Fin 8) (r : Reg8) : Meaning i s (Machine.clearBitReg b r s)
  | clearBitMem (i : Instr) (s : State) (b : Fin 8) : Meaning i s (Machine.clearBitMem b s)
  | raiseBitReg (i : Instr) (s : State) (b : Fin 8) (r : Reg8) : Meaning i s (Machine.raiseBitReg b r s)
  | raiseBitMem (i : Instr) (s : State) (b : Fin 8) : Meaning i s (Machine.raiseBitMem b s)
  | loadReg (i : Instr) (s : State) (dst src : Reg8) : Meaning i s (Machine.loadReg dst src s)
  | loadImm (i : Instr) (s : State) (dst : Reg8) (n : Byte) : Meaning i s (Machine.loadImm dst n s)
  | loadMem (i : Instr) (s : State) (dst : Reg8) : Meaning i s (Machine.loadMem dst s)
  | storeMem (i : Instr) (s : State) (r : Reg8) : Meaning i s (Machine.storeMem r s)
  | storeImm (i : Instr) (s : State) (n : Byte) : Meaning i s (Machine.storeImm n s)
  | loadPair (i : Instr) (s : State) (p : Pair) : Meaning i s (Machine.loadPair p s)
  | storePair (i : Instr) (s : State) (p : Pair) : Meaning i s (Machine.storePair p s)
  | loadAbs (i : Instr) (s : State) (nn : Word) : Meaning i s (Machine.loadAbs nn s)
  | storeAbs (i : Instr) (s : State) (nn : Word) : Meaning i s (Machine.storeAbs nn s)
  | loadHighImm (i : Instr) (s : State) (n : Byte) : Meaning i s (Machine.loadHighImm n s)
  | storeHighImm (i : Instr) (s : State) (n : Byte) : Meaning i s (Machine.storeHighImm n s)
  | loadHighC (i : Instr) (s : State) : Meaning i s (Machine.loadHighC s)
  | storeHighC (i : Instr) (s : State) : Meaning i s (Machine.storeHighC s)
  | storeMemInc (i : Instr) (s : State) : Meaning i s (Machine.storeMemInc s)
  | storeMemDec (i : Instr) (s : State) : Meaning i s (Machine.storeMemDec s)
  | loadMemInc (i : Instr) (s : State) : Meaning i s (Machine.loadMemInc s)
  | loadMemDec (i : Instr) (s : State) : Meaning i s (Machine.loadMemDec s)
  | loadPairImm (i : Instr) (s : State) (p : Pair) (nn : Word) : Meaning i s (Machine.loadPairImm p nn s)
  | storeSp (i : Instr) (s : State) (nn : Word) : Meaning i s (Machine.storeSp nn s)
  | loadSpHl (i : Instr) (s : State) : Meaning i s (Machine.loadSpHl s)
  | loadHlSpDisp (i : Instr) (s : State) (e : Byte) : Meaning i s (Machine.loadHlSpDisp e s)
  | pushPair (i : Instr) (s : State) (p : StackPair) : Meaning i s (Machine.pushPair p s)
  | popPair (i : Instr) (s : State) (p : StackPair) : Meaning i s (Machine.popPair p s)
  | incPair (i : Instr) (s : State) (p : Pair) : Meaning i s (Machine.incPair p s)
  | decPair (i : Instr) (s : State) (p : Pair) : Meaning i s (Machine.decPair p s)
  | addHl (i : Instr) (s : State) (p : Pair) : Meaning i s (Machine.addHl p s)
  | addSpDisp (i : Instr) (s : State) (e : Byte) : Meaning i s (Machine.addSpDisp e s)
  | jumpAbs (i : Instr) (s : State) (nn : Word) : Meaning i s (Machine.jumpAbs nn s)
  | jumpAbsIf (i : Instr) (s : State) (cc : Cond) (nn : Word) : Meaning i s (Machine.jumpAbsIf cc nn s)
  | jumpHl (i : Instr) (s : State) : Meaning i s (Machine.jumpHl s)
  | jumpRel (i : Instr) (s : State) (e : Byte) : Meaning i s (Machine.jumpRel e s)
  | jumpRelIf (i : Instr) (s : State) (cc : Cond) (e : Byte) : Meaning i s (Machine.jumpRelIf cc e s)
  | callAbs (i : Instr) (s : State) (nn : Word) : Meaning i s (Machine.callAbs nn s)
  | callAbsIf (i : Instr) (s : State) (cc : Cond) (nn : Word) : Meaning i s (Machine.callAbsIf cc nn s)
  | returnPop (i : Instr) (s : State) : Meaning i s (Machine.returnPop s)
  | returnPopIf (i : Instr) (s : State) (cc : Cond) : Meaning i s (Machine.returnPopIf cc s)
  | restart (i : Instr) (s : State) (k : Fin 8) : Meaning i s (Machine.restart k s)
  | nop (i : Instr) (s : State) : Meaning i s (done 4 s)
  | stop (x : Byte) (s : State) : Meaning (.stop x) s (Machine.stop x s)
  | illegal (o : Byte) (s : State) : Meaning (.illegal o) s (raiseUnimplemented o s)
  | halt (s : State) : Meaning .halt s (Machine.halt s)
  | disableInterrupts (s : State) : Meaning .di s (Machine.disableInterrupts s)
  | enableInterrupts (s : State) : Meaning .ei s (Machine.enableInterrupts s)
  | returnFromInterrupt (s : State) : Meaning .reti s (Machine.returnFromInterrupt s)

theorem extendedOp_meaning (i : Instr) (p : Byte) (s : State) : Meaning i s (extendedOp p s) := by
  unfold extendedOp
  split
  · exact .shiftReg _ _ _ _
  · exact .shiftMem _ _ _
  · exact .testBitReg _ _ _ _
  · exact .testBitMem _ _ _
  · exact .clearBitReg _ _ _ _
  · exact .clearBitMem _ _ _
  · exact .raiseBitReg _ _ _ _
  · exact .raiseBitMem _ _ _

/-- Every instruction has one of the shared meanings. -/
theorem exec_meaning (i : Instr) (s : State) : Meaning i s (exec i s) :=
  match i with
  | .ldBcN16 nn => .loadPairImm _ s .bc nn
  | .ldBN8 n => .loadImm _ s .b n
  | .ldMemN16Sp nn => .storeSp _ s nn
  | .ldCN8 n => .loadImm _ s .c n
  | .stop x => .stop x s
  | .ldDeN16 nn => .loadPairImm _ s .de nn
  | .ldDN8 n => .loadImm _ s .d n
  | .jrE8 e => .jumpRel _ s e
  | .ldEN8 n => .loadImm _ s .e n
  | .jrNzE8 e => .jumpRelIf _ s .nz e
  | .ldHlN16 nn => .loadPairImm _ s .hl nn
  | .ldHN8 n => .loadImm _ s .h n
  | .jrZE8 e => .jumpRelIf _ s .z e
  | .ldLN8 n => .loadImm _ s .l n
  | .jrNcE8 e => .jumpRelIf _ s .nc e
  | .ldSpN16 nn => .loadPairImm _ s .sp nn
  | .ldMemHlN8 n => .storeImm _ s n
  | .jrCE8 e => .jumpRelIf _ s .c e
  | .ldAN8 n => .loadImm _ s .a n
  | .jpNzN16 nn => .jumpAbsIf _ s .nz nn
  | .jpN16 nn => .jumpAbs _ s nn
  | .callNzN16 nn => .callAbsIf _ s .nz nn
  | .addAN8 n => .aluImm _ s .add n
  | .jpZN16 nn => .jumpAbsIf _ s .z nn
  | .prefixCb p => extendedOp_meaning _ p s
  | .callZN16 nn => .callAbsIf _ s .z nn
  | .callN16 nn => .callAbs _ s nn
  | .adcAN8 n => .aluImm _ s .adc n
  | .jpNcN16 nn => .jumpAbsIf _ s .nc nn
  | .illegal o => .illegal o s
  | .callNcN16 nn => .callAbsIf _ s .nc nn
  | .subN8 n => .aluImm _ s .sub n
  | .jpCN16 nn => .jumpAbsIf _ s .c nn
  | .callCN16 nn => .callAbsIf _ s .c nn
  | .sbcAN8 n => .aluImm _ s .sbc n
  | .ldhMemN8A n => .storeHighImm _ s n
  | .andN8 n => .aluImm _ s .and n
  | .addSpE8 e => .addSpDisp _ s e
  | .ldMemN16A nn => .storeAbs _ s nn
  | .xorN8 n => .aluImm _ s .xor n
  | .ldhAMemN8 n => .loadHighImm _ s n
  | .orN8 n => .aluImm _ s .or n
  | .ldHlSpE8 e => .loadHlSpDisp _ s e
  | .ldAMemN16 nn => .loadAbs _ s nn
  | .cpN8 n => .aluImm _ s .cp n
  | .nop => .nop _ s
  | .ldMemBcA => .storePair _ s .bc
  | .incBc => .incPair _ s .bc
  | .incB => .incReg _ s .b
  | .decB => .decReg _ s .b
  | .rlca => .rotateA _ s .rlc
  | .addHlBc => .addHl _ s .bc
  | .ldAMemBc => .loadPair _ s .bc
  | .decBc => .decPair _ s .bc
  | .incC => .incReg _ s .c
  | .decC => .decReg _ s .c
  | .rrca => .rotateA _ s .rrc
  | .ldMemDeA => .storePair _ s .de
  | .incDe => .incPair _ s .de
  | .incD => .incReg _ s .d
  | .decD => .decReg _ s .d
  | .rla => .rotateA _ s .rl
  | .addHlDe => .addHl _ s .de
  | .ldAMemDe => .loadPair _ s .de
  | .decDe => .decPair _ s .de
  | .incE => .incReg _ s .e
  | .decE => .decReg _ s .e
  | .rra => .rotateA _ s .rr
  | .ldMemHlIncA => .storeMemInc _ s
  | .incHl => .incPair _ s .hl
  | .incH => .incReg _ s .h
  | .decH => .decReg _ s .h
  | .daa => .decimalAdjust _ s
  | .addHlHl => .addHl _ s .hl
  | .ldAMemHlInc => .loadMemInc _ s
  | .decHl => .decPair _ s .hl
  | .incL => .incReg _ s .l
  | .decL => .decReg _ s .l
  | .cpl => .complementA _ s
  | .ldMemHlDecA => .storeMemDec _ s
  | .incSp => .incPair _ s .sp
  | .incMemHl => .incMem _ s
  | .decMemHl => .decMem _ s
  | .scf => .setCarry _ s
  | .addHlSp => .addHl _ s .sp
  | .ldAMemHlDec => .loadMemDec _ s
  | .decSp => .decPair _ s .sp
  | .incA => .incReg _ s .a
  | .decA => .decReg _ s .a
  | .ccf => .complementCarry _ s
  | .ldBB => .loadReg _ s .b .b
  | .ldBC => .loadReg _ s .b .c
  | .ldBD => .loadReg _ s .b .d
  | .ldBE => .loadReg _ s .b .e
  | .ldBH => .loadReg _ s .b .h
  | .ldBL => .loadReg _ s .b .l
  | .ldBMemHl => .loadMem _ s .b
  | .ldBA => .loadReg _ s .b .a
  | .ldCB => .loadReg _ s .c .b
  | .ldCC => .loadReg _ s .c .c
  | .ldCD => .loadReg _ s .c .d
  | .ldCE => .loadReg _ s .c .e
  | .ldCH => .loadReg _ s .c .h
  | .ldCL => .loadReg _ s .c .l
  | .ldCMemHl => .loadMem _ s .c
  | .ldCA => .loadReg _ s .c .a
  | .ldDB => .loadReg _ s .d .b
  | .ldDC => .loadReg _ s .d .c
  | .ldDD => .loadReg _ s .d .d
  | .ldDE => .loadReg _ s .d .e
  | .ldDH => .loadReg _ s .d .h
  | .ldDL => .loadReg _ s .d .l
  | .ldDMemHl => .loadMem _ s .d
  | .ldDA => .loadReg _ s .d .a
  | .ldEB => .loadReg _ s .e .b
  | .ldEC => .loadReg _ s .e .c
  | .ldED => .loadReg _ s .e .d
  | .ldEE => .loadReg _ s .e .e
  | .ldEH => .loadReg _ s .e .h
  | .ldEL => .loadReg _ s .e .l
  | .ldEMemHl => .loadMem _ s .e
  | .ldEA => .loadReg _ s .e .a
  | .ldHB => .loadReg _ s .h .b
  | .ldHC => .loadReg _ s .h .c
  | .ldHD => .loadReg _ s .h .d
  | .ldHE => .loadReg _ s .h .e
  | .ldHH => .loadReg _ s .h .h
  | .ldHL => .loadReg _ s .h .l
  | .ldHMemHl => .loadMem _ s .h
  | .ldHA => .loadReg _ s .h .a
  | .ldLB => .loadReg _ s .l .b
  | .ldLC => .loadReg _ s .l .c
  | .ldLD => .loadReg _ s .l .d
  | .ldLE => .loadReg _ s .l .e
  | .ldLH => .loadReg _ s .l .h
  | .ldLL => .loadReg _ s .l .l
  | .ldLMemHl => .loadMem _ s .l
  | .ldLA => .loadReg _ s .l .a
  | .ldMemHlB => .storeMem _ s .b
  | .ldMemHlC => .storeMem _ s .c
  | .ldMemHlD => .storeMem _ s .d
  | .ldMemHlE => .storeMem _ s .e
  | .ldMemHlH => .storeMem _ s .h
  | .ldMemHlL => .storeMem _ s .l
  | .halt => .halt s
  | .ldMemHlA => .storeMem _ s .a
  | .ldAB => .loadReg _ s .a .b
  | .ldAC => .loadReg _ s .a .c
  | .ldAD => .loadReg _ s .a .d
  | .ldAE => .loadReg _ s .a .e
  | .ldAH => .loadReg _ s .a .h
  | .ldAL => .loadReg _ s .a .l
  | .ldAMemHl => .loadMem _ s .a
  | .ldAA => .loadReg _ s .a .a
  | .addAB => .aluReg _ s .add .b
  | .addAC => .aluReg _ s .add .c
  | .addAD => .aluReg _ s .add .d
  | .addAE => .aluReg _ s .add .e
  | .addAH => .aluReg _ s .add .h
  | .addAL => .aluReg _ s .add .l
  | .addAMemHl => .aluMem _ s .add
  | .addAA => .aluReg _ s .add .a
  | .adcAB => .aluReg _ s .adc .b
  | .adcAC => .aluReg _ s .adc .c
  | .adcAD => .aluReg _ s .adc .d
  | .adcAE => .aluReg _ s .adc .e
  | .adcAH => .aluReg _ s .adc .h
  | .adcAL => .aluReg _ s .adc .l
  | .adcAMemHl => .aluMem _ s .adc
  | .adcAA => .aluReg _ s .adc .a
  | .subB => .aluReg _ s .sub .b
  | .subC => .aluReg _ s .sub .c
  | .subD => .aluReg _ s .sub .d
  | .subE => .aluReg _ s .sub .e
  | .subH => .aluReg _ s .sub .h
  | .subL => .aluReg _ s .sub .l
  | .subMemHl => .aluMem _ s .sub
  | .subA => .aluReg _ s .sub .a
  | .sbcAB => .aluReg _ s .sbc .b
  | .sbcAC => .aluReg _ s .sbc .c
  | .sbcAD => .aluReg _ s .sbc .d
  | .sbcAE => .aluReg _ s .sbc .e
  | .sbcAH => .aluReg _ s .sbc .h
  | .sbcAL => .aluReg _ s .sbc .l
  | .sbcAMemHl => .aluMem _ s .sbc
  | .sbcAA => .aluReg _ s .sbc .a
  | .andB => .aluReg _ s .and .b
  | .andC => .aluReg _ s .and .c
  | .andD => .aluReg _ s .and .d
  | .andE => .aluReg _ s .and .e
  | .andH => .aluReg _ s .and .h
  | .andL => .aluReg _ s .and .l
  | .andMemHl => .aluMem _ s .and
  | .andA => .aluReg _ s .and .a
  | .xorB => .aluReg _ s .xor .b
  | .xorC => .aluReg _ s .xor .c
  | .xorD => .aluReg _ s .xor .d
  | .xorE => .aluReg _ s .xor .e
  | .xorH => .aluReg _ s .xor .h
  | .xorL => .aluReg _ s .xor .l
  | .xorMemHl => .aluMem _ s .xor
  | .xorA => .aluReg _ s .xor .a
  | .orB => .aluReg _ s .or .b
  | .orC => .aluReg _ s .or .c
  | .orD => .aluReg _ s .or .d
  | .orE => .aluReg _ s .or .e
  | .orH => .aluReg _ s .or .h
  | .orL => .aluReg _ s .or .l
  | .orMemHl => .aluMem _ s .or
  | .orA => .aluReg _ s .or .a
  | .cpB => .aluReg _ s .cp .b
  | .cpC => .aluReg _ s .cp .c
  | .cpD => .aluReg _ s .cp .d
  | .cpE => .aluReg _ s .cp .e
  | .cpH => .aluReg _ s .cp .h
  | .cpL => .aluReg _ s .cp .l
  | .cpMemHl => .aluMem _ s .cp
  | .cpA => .aluReg _ s .cp .a
  | .retNz => .returnPopIf _ s .nz
  | .popBc => .popPair _ s .bc
  | .pushBc => .pushPair _ s .bc
  | .rst00 => .restart _ s 0
  | .retZ => .returnPopIf _ s .z
  | .ret => .returnPop _ s
  | .rst08 => .restart _ s 1
  | .retNc => .returnPopIf _ s .nc
  | .popDe => .popPair _ s .de
  | .pushDe => .pushPair _ s .de
  | .rst10 => .restart _ s 2
  | .retC => .returnPopIf _ s .c
  | .reti => .returnFromInterrupt s
  | .rst18 => .restart _ s 3
  | .popHl => .popPair _ s .hl
  | .ldMemCA => .storeHighC _ s
  | .pushHl => .pushPair _ s .hl
  | .rst20 => .restart _ s 4
  | .jpHl => .jumpHl _ s
  | .rst28 => .restart _ s 5
  | .popAf => .popPair _ s .af
  | .ldAMemC => .loadHighC _ s
  | .di => .disableInterrupts s
  | .pushAf => .pushPair _ s .af
  | .rst30 => .restart _ s 6
  | .ldSpHl => .loadSpHl _ s
  | .ei => .enableInterrupts s
  | .rst38 => .restart _ s 7
  | .rlcB => .shiftReg _ s .rlc .b
  | .rlcC => .shiftReg _ s .rlc .c
  | .rlcD => .shiftReg _ s .rlc .d
  | .rlcE => .shiftReg _ s .rlc .e
  | .rlcH => .shiftReg _ s .rlc .h
  | .rlcL => .shiftReg _ s .rlc .l
  | .rlcMemHl => .shiftMem _ s .rlc
  | .rlcA => .shiftReg _ s .rlc .a
  | .rrcB => .shiftReg _ s .rrc .b
  | .rrcC => .shiftReg _ s .rrc .c
  | .rrcD => .shiftReg _ s .rrc .d
  | .rrcE => .shiftReg _ s .rrc .e
  | .rrcH => .shiftReg _ s .rrc .h
  | .rrcL => .shiftReg _ s .rrc .l
  | .rrcMemHl => .shiftMem _ s .rrc
  | .rrcA => .shiftReg _ s .rrc .a
  | .rlB => .shiftReg _ s .rl .b
  | .rlC => .shiftReg _ s .rl .c
  | .rlD => .shiftReg _ s .rl .d
  | .rlE => .shiftReg _ s .rl .e
  | .rlH => .shiftReg _ s .rl .h
  | .rlL => .shiftReg _ s .rl .l
  | .rlMemHl => .shiftMem _ s .rl
  | .rlA => .shiftReg _ s .rl .a
  | .rrB => .shiftReg _ s .rr .b
  | .rrC => .shiftReg _ s .rr .c
  | .rrD => .shiftReg _ s .rr .d
  | .rrE => .shiftReg _ s .rr .e
  | .rrH => .shiftReg _ s .rr .h
  | .rrL => .shiftReg _ s .rr .l
  | .rrMemHl => .shiftMem _ s .rr
  | .rrA => .shiftReg _ s .rr .a
  | .slaB => .shiftReg _ s .sla .b
  | .slaC => .shiftReg _ s .sla .c
  | .slaD => .shiftReg _ s .sla .d
  | .slaE => .shiftReg _ s .sla .e
  | .slaH => .shiftReg _ s .sla .h
  | .slaL => .shiftReg _ s .sla .l
  | .slaMemHl => .shiftMem _ s .sla
  | .slaA => .shiftReg _ s .sla .a
  | .sraB => .shiftReg _ s .sra .b
  | .sraC => .shiftReg _ s .sra .c
  | .sraD => .shiftReg _ s .sra .d
  | .sraE => .shiftReg _ s .sra .e
  | .sraH => .shiftReg _ s .sra .h
  | .sraL => .shiftReg _ s .sra .l
  | .sraMemHl => .shiftMem _ s .sra
  | .sraA => .shiftReg _ s .sra .a
  | .swapB => .shiftReg _ s .swap .b
  | .swapC => .shiftReg _ s .swap .c
  | .swapD => .shiftReg _ s .swap .d
  | .swapE => .shiftReg _ s .swap .e
  | .swapH => .shiftReg _ s .swap .h
  | .swapL => .shiftReg _ s .swap .l
  | .swapMemHl => .shiftMem _ s .swap
  | .swapA => .shiftReg _ s .swap .a
  | .srlB => .shiftReg _ s .srl .b
  | .srlC => .shiftReg _ s .srl .c
  | .srlD => .shiftReg _ s .srl .d
  | .srlE => .shiftReg _ s .srl .e
  | .srlH => .shiftReg _ s .srl .h
  | .srlL => .shiftReg _ s .srl .l
  | .srlMemHl => .shiftMem _ s .srl
  | .srlA => .shiftReg _ s .srl .a
  | .bit0B => .testBitReg _ s 0 .b
  | .bit0C => .testBitReg _ s 0 .c
  | .bit0D => .testBitReg _ s 0 .d
  | .bit0E => .testBitReg _ s 0 .e
  | .bit0H => .testBitReg _ s 0 .h
  | .bit0L => .testBitReg _ s 0 .l
  | .bit0MemHl => .testBitMem _ s 0
  | .bit0A => .testBitReg _ s 0 .a
  | .bit1B => .testBitReg _ s 1 .b
  | .bit1C => .testBitReg _ s 1 .c
  | .bit1D => .testBitReg _ s 1 .d
  | .bit1E => .testBitReg _ s 1 .e
  | .bit1H => .testBitReg _ s 1 .h
  | .bit1L => .testBitReg _ s 1 .l
  | .bit1MemHl => .testBitMem _ s 1
  | .bit1A => .testBitReg _ s 1 .a
  | .bit2B => .testBitReg _ s 2 .b
  | .bit2C => .testBitReg _ s 2 .c
  | .bit2D => .testBitReg _ s 2 .d
  | .bit2E => .testBitReg _ s 2 .e
  | .bit2H => .testBitReg _ s 2 .h
  | .bit2L => .testBitReg _ s 2 .l
  | .bit2MemHl => .testBitMem _ s 2
  | .bit2A => .testBitReg _ s 2 .a
  | .bit3B => .testBitReg _ s 3 .b
  | .bit3C => .testBitReg _ s 3 .c
  | .bit3D => .testBitReg _ s 3 .d
  | .bit3E => .testBitReg _ s 3 .e
  | .bit3H => .testBitReg _ s 3 .h
  | .bit3L => .testBitReg _ s 3 .l
  | .bit3MemHl => .testBitMem _ s 3
  | .bit3A => .testBitReg _ s 3 .a
  | .bit4B => .testBitReg _ s 4 .b
  | .bit4C => .testBitReg _ s 4 .c
  | .bit4D => .testBitReg _ s 4 .d
  | .bit4E => .testBitReg _ s 4 .e
  | .bit4H => .testBitReg _ s 4 .h
  | .bit4L => .testBitReg _ s 4 .l
  | .bit4MemHl => .testBitMem _ s 4
  | .bit4A => .testBitReg _ s 4 .a
  | .bit5B => .testBitReg _ s 5 .b
  | .bit5C => .testBitReg _ s 5 .c
  | .bit5D => .testBitReg _ s 5 .d
  | .bit5E => .testBitReg _ s 5 .e
  | .bit5H => .testBitReg _ s 5 .h
  | .bit5L => .testBitReg _ s 5 .l
  | .bit5MemHl => .testBitMem _ s 5
  | .bit5A => .testBitReg _ s 5 .a
  | .bit6B => .testBitReg _ s 6 .b
  | .bit6C => .testBitReg _ s 6 .c
  | .bit6D => .testBitReg _ s 6 .d
  | .bit6E => .testBitReg _ s 6 .e
  | .bit6H => .testBitReg _ s 6 .h
  | .bit6L => .testBitReg _ s 6 .l
  | .bit6MemHl => .testBitMem _ s 6
  | .bit6A => .testBitReg _ s 6 .a
  | .bit7B => .testBitReg _ s 7 .b
  | .bit7C => .testBitReg _ s 7 .c
  | .bit7D => .testBitReg _ s 7 .d
  | .bit7E => .testBitReg _ s 7 .e
  | .bit7H => .testBitReg _ s 7 .h
  | .bit7L => .testBitReg _ s 7 .l
  | .bit7MemHl => .testBitMem _ s 7
  | .bit7A => .testBitReg _ s 7 .a
  | .res0B => .clearBitReg _ s 0 .b
  | .res0C => .clearBitReg _ s 0 .c
  | .res0D => .clearBitReg _ s 0 .d
  | .res0E => .clearBitReg _ s 0 .e
  | .res0H => .clearBitReg _ s 0 .h
  | .res0L => .clearBitReg _ s 0 .l
  | .res0MemHl => .clearBitMem _ s 0
  | .res0A => .clearBitReg _ s 0 .a
  | .res1B => .clearBitReg _ s 1 .b
  | .res1C => .clearBitReg _ s 1 .c
  | .res1D => .clearBitReg _ s 1 .d
  | .res1E => .clearBitReg _ s 1 .e
  | .res1H => .clearBitReg _ s 1 .h
  | .res1L => .clearBitReg _ s 1 .l
  | .res1MemHl => .clearBitMem _ s 1
  | .res1A => .clearBitReg _ s 1 .a
  | .res2B => .clearBitReg _ s 2 .b
  | .res2C => .clearBitReg _ s 2 .c
  | .res2D => .clearBitReg _ s 2 .d
  | .res2E => .clearBitReg _ s 2 .e
  | .res2H => .clearBitReg _ s 2 .h
  | .res2L => .clearBitReg _ s 2 .l
  | .res2MemHl => .clearBitMem _ s 2
  | .res2A => .clearBitReg _ s 2 .a
  | .res3B => .clearBitReg _ s 3 .b
  | .res3C => .clearBitReg _ s 3 .c
  | .res3D => .clearBitReg _ s 3 .d
  | .res3E => .clearBitReg _ s 3 .e
  | .res3H => .clearBitReg _ s 3 .h
  | .res3L => .clearBitReg _ s 3 .l
  | .res3MemHl => .clearBitMem _ s 3
  | .res3A => .clearBitReg _ s 3 .a
  | .res4B => .clearBitReg _ s 4 .b
  | .res4C => .clearBitReg _ s 4 .c
  | .res4D => .clearBitReg _ s 4 .d
  | .res4E => .clearBitReg _ s 4 .e
  | .res4H => .clearBitReg _ s 4 .h
  | .res4L => .clearBitReg _ s 4 .l
  | .res4MemHl => .clearBitMem _ s 4
  | .res4A => .clearBitReg _ s 4 .a
  | .res5B => .clearBitReg _ s 5 .b
  | .res5C => .clearBitReg _ s 5 .c
  | .res5D => .clearBitReg _ s 5 .d
  | .res5E => .clearBitReg _ s 5 .e
  | .res5H => .clearBitReg _ s 5 .h
  | .res5L => .clearBitReg _ s 5 .l
  | .res5MemHl => .clearBitMem _ s 5
  | .res5A => .clearBitReg _ s 5 .a
  | .res6B => .clearBitReg _ s 6 .b
  | .res6C => .clearBitReg _ s 6 .c
  | .res6D => .clearBitReg _ s 6 .d
  | .res6E => .clearBitReg _ s 6 .e
  | .res6H => .clearBitReg _ s 6 .h
  | .res6L => .clearBitReg _ s 6 .l
  | .res6MemHl => .clearBitMem _ s 6
  | .res6A => .clearBitReg _ s 6 .a
  | .res7B => .clearBitReg _ s 7 .b
  | .res7C => .clearBitReg _ s 7 .c
  | .res7D => .clearBitReg _ s 7 .d
  | .res7E => .clearBitReg _ s 7 .e
  | .res7H => .clearBitReg _ s 7 .h
  | .res7L => .clearBitReg _ s 7 .l
  | .res7MemHl => .clearBitMem _ s 7
  | .res7A => .clearBitReg _ s 7 .a
  | .set0B => .raiseBitReg _ s 0 .b
  | .set0C => .raiseBitReg _ s 0 .c
  | .set0D => .raiseBitReg _ s 0 .d
  | .set0E => .raiseBitReg _ s 0 .e
  | .set0H => .raiseBitReg _ s 0 .h
  | .set0L => .raiseBitReg _ s 0 .l
  | .set0MemHl => .raiseBitMem _ s 0
  | .set0A => .raiseBitReg _ s 0 .a
  | .set1B => .raiseBitReg _ s 1 .b
  | .set1C => .raiseBitReg _ s 1 .c
  | .set1D => .raiseBitReg _ s 1 .d
  | .set1E => .raiseBitReg _ s 1 .e
  | .set1H => .raiseBitReg _ s 1 .h
  | .set1L => .raiseBitReg _ s 1 .l
  | .set1MemHl => .raiseBitMem _ s 1
  | .set1A => .raiseBitReg _ s 1 .a
  | .set2B => .raiseBitReg _ s 2 .b
  | .set2C => .raiseBitReg _ s 2 .c
  | .set2D => .raiseBitReg _ s 2 .d
  | .set2E => .raiseBitReg _ s 2 .e
  | .set2H => .raiseBitReg _ s 2 .h
  | .set2L => .raiseBitReg _ s 2 .l
  | .set2MemHl => .raiseBitMem _ s 2
  | .set2A => .raiseBitReg _ s 2 .a
  | .set3B => .raiseBitReg _ s 3 .b
  | .set3C => .raiseBitReg _ s 3 .c
  | .set3D => .raiseBitReg _ s 3 .d
  | .set3E => .raiseBitReg _ s 3 .e
  | .set3H => .raiseBitReg _ s 3 .h
  | .set3L => .raiseBitReg _ s 3 .l
  | .set3MemHl => .raiseBitMem _ s 3
  | .set3A => .raiseBitReg _ s 3 .a
  | .set4B => .raiseBitReg _ s 4 .b
  | .set4C => .raiseBitReg _ s 4 .c
  | .set4D => .raiseBitReg _ s 4 .d
  | .set4E => .raiseBitReg _ s 4 .e
  | .set4H => .raiseBitReg _ s 4 .h
  | .set4L => .raiseBitReg _ s 4 .l
  | .set4MemHl => .raiseBitMem _ s 4
  | .set4A => .raiseBitReg _ s 4 .a
  | .set5B => .raiseBitReg _ s 5 .b
  | .set5C => .raiseBitReg _ s 5 .c
  | .set5D => .raiseBitReg _ s 5 .d
  | .set5E => .raiseBitReg _ s 5 .e
  | .set5H => .raiseBitReg _ s 5 .h
  | .set5L => .raiseBitReg _ s 5 .l
  | .set5MemHl => .raiseBitMem _ s 5
  | .set5A => .raiseBitReg _ s 5 .a
  | .set6B => .raiseBitReg _ s 6 .b
  | .set6C => .raiseBitReg _ s 6 .c
  | .set6D => .raiseBitReg _ s 6 .d
  | .set6E => .raiseBitReg _ s 6 .e
  | .set6H => .raiseBitReg _ s 6 .h
  | .set6L => .raiseBitReg _ s 6 .l
  | .set6MemHl => .raiseBitMem _ s 6
  | .set6A => .raiseBitReg _ s 6 .a
  | .set7B => .raiseBitReg _ s 7 .b
  | .set7C => .raiseBitReg _ s 7 .c
  | .set7D => .raiseBitReg _ s 7 .d
  | .set7E => .raiseBitReg _ s 7 .e
  | .set7H => .raiseBitReg _ s 7 .h
  | .set7L => .raiseBitReg _ s 7 .l
  | .set7MemHl => .raiseBitMem _ s 7
  | .set7A => .raiseBitReg _ s 7 .a

end Sys2Proof.Machine
end

