-- ==== Sys2Proof/Laws/Forms.lean ====
section
/-! SUPPORT. exec on a form is the form's shared meaning: one lemma per form, so that no later proof cases on constructors again. -/

namespace Sys2Proof.Laws

open Sys2Proof.Machine

@[simp] theorem exec_aluReg (op : AluOp) (r : Reg8) (s : State) : exec (Forms.aluReg op r) s = aluReg op r s := by
  cases op <;> cases r <;> rfl

@[simp] theorem exec_aluMem (op : AluOp) (s : State) : exec (Forms.aluMem op) s = aluMem op s := by
  cases op <;> rfl

@[simp] theorem exec_aluImm (op : AluOp) (n : Byte) (s : State) : exec (Forms.aluImm op n) s = aluImm op n s := by
  cases op <;> rfl

@[simp] theorem exec_incReg (r : Reg8) (s : State) : exec (Forms.incReg r) s = incReg r s := by
  cases r <;> rfl

@[simp] theorem exec_decReg (r : Reg8) (s : State) : exec (Forms.decReg r) s = decReg r s := by
  cases r <;> rfl

@[simp] theorem exec_incPair (p : Pair) (s : State) : exec (Forms.incPair p) s = incPair p s := by
  cases p <;> rfl

@[simp] theorem exec_decPair (p : Pair) (s : State) : exec (Forms.decPair p) s = decPair p s := by
  cases p <;> rfl

@[simp] theorem exec_addHl (p : Pair) (s : State) : exec (Forms.addHl p) s = addHl p s := by
  cases p <;> rfl

@[simp] theorem exec_shiftReg (op : ShiftOp) (r : Reg8) (s : State) : exec (Forms.shiftReg op r) s = shiftReg op r s := by
  cases op <;> cases r <;> rfl

@[simp] theorem exec_shiftMem (op : ShiftOp) (s : State) : exec (Forms.shiftMem op) s = shiftMem op s := by
  cases op <;> rfl

@[simp] theorem exec_testBitReg (i : Fin 8) (r : Reg8) (s : State) : exec (Forms.testBitReg i r) s = testBitReg i r s := by
  revert i; cases r <;> intro i <;> fin_cases i <;> rfl

@[simp] theorem exec_testBitMem (i : Fin 8) (s : State) : exec (Forms.testBitMem i) s = testBitMem i s := by
  fin_cases i <;> rfl

@[simp] theorem exec_clearBitReg (i : Fin 8) (r : Reg8) (s : State) : exec (Forms.clearBitReg i r) s = clearBitReg i r s := by
  revert i; cases r <;> intro i <;> fin_cases i <;> rfl

@[simp] theorem exec_clearBitMem (i : Fin 8) (s : State) : exec (Forms.clearBitMem i) s = clearBitMem i s := by
  fin_cases i <;> rfl

@[simp] theorem exec_raiseBitReg (i : Fin 8) (r : Reg8) (s : State) : exec (Forms.raiseBitReg i r) s = raiseBitReg i r s := by
  revert i; cases r <;> intro i <;> fin_cases i <;> rfl

@[simp] theorem exec_raiseBitMem (i : Fin 8) (s : State) : exec (Forms.raiseBitMem i) s = raiseBitMem i s := by
  fin_cases i <;> rfl

@[simp] theorem exec_loadReg (dst : Reg8) (src : Reg8) (s : State) : exec (Forms.loadReg dst src) s = loadReg dst src s := by
  cases dst <;> cases src <;> rfl

@[simp] theorem exec_loadImm (dst : Reg8) (n : Byte) (s : State) : exec (Forms.loadImm dst n) s = loadImm dst n s := by
  cases dst <;> rfl

@[simp] theorem exec_loadMem (dst : Reg8) (s : State) : exec (Forms.loadMem dst) s = loadMem dst s := by
  cases dst <;> rfl

@[simp] theorem exec_storeMem (r : Reg8) (s : State) : exec (Forms.storeMem r) s = storeMem r s := by
  cases r <;> rfl

@[simp] theorem exec_loadPairImm (p : Pair) (nn : Word) (s : State) : exec (Forms.loadPairImm p nn) s = loadPairImm p nn s := by
  cases p <;> rfl

@[simp] theorem exec_pushPair (p : StackPair) (s : State) : exec (Forms.pushPair p) s = pushPair p s := by
  cases p <;> rfl

@[simp] theorem exec_popPair (p : StackPair) (s : State) : exec (Forms.popPair p) s = popPair p s := by
  cases p <;> rfl

@[simp] theorem exec_jumpAbsIf (cc : Cond) (nn : Word) (s : State) : exec (Forms.jumpAbsIf cc nn) s = jumpAbsIf cc nn s := by
  cases cc <;> rfl

@[simp] theorem exec_jumpRelIf (cc : Cond) (e : Byte) (s : State) : exec (Forms.jumpRelIf cc e) s = jumpRelIf cc e s := by
  cases cc <;> rfl

@[simp] theorem exec_callAbsIf (cc : Cond) (nn : Word) (s : State) : exec (Forms.callAbsIf cc nn) s = callAbsIf cc nn s := by
  cases cc <;> rfl

@[simp] theorem exec_returnPopIf (cc : Cond) (s : State) : exec (Forms.returnPopIf cc) s = returnPopIf cc s := by
  cases cc <;> rfl

@[simp] theorem exec_restart (t : Fin 8) (s : State) : exec (Forms.restart t) s = restart t s := by
  fin_cases t <;> rfl

end Sys2Proof.Laws
end

