-- ==== Sys2Proof/Laws/Memory.lean ====
section
/-! SUPPORT. The laws of a memory: read after write, a write leaves every other address alone, every operation keeps the canonical
form, and memories in that form with equal reads are equal. -/

namespace Sys2Proof.Machine.Memory

theorem rising_cons (c : Host.Cell) (m : Memory) : Rising (c :: m) ↔ (∀ d ∈ m, c.1 < d.1) ∧ Rising m :=
  List.pairwise_cons

/-- No byte is listed below every listed address. -/
theorem find_of_below (m : Memory) (a : Nat) (h : ∀ d ∈ m, a < d.1) : m.find a = none := by
  induction m with
  | nil => rfl
  | cons c m ih =>
    have hc := h c (by simp)
    rw [find, if_neg (by omega)]
    exact ih fun d hd => h d (by simp [hd])

/-- A listed byte is an entry. -/
theorem mem_of_find (m : Memory) (a : Nat) (v : Byte) (h : m.find a = some v) : (a, v) ∈ m := by
  induction m with
  | nil => cases h
  | cons c m ih =>
    rw [find] at h
    split at h
    · rename_i e; simp only [Option.some.injEq] at h; exact List.mem_cons.mpr (.inl (Prod.ext e h.symm))
    · exact List.mem_cons_of_mem _ (ih h)

theorem find_insert_self (m : Memory) (a : Nat) (v : Byte) : (m.insert a v).find a = some v := by
  induction m with
  | nil => simp [insert, find]
  | cons c m ih =>
    rw [insert]
    split
    · simp [find]
    · split
      · simp [find]
      · rename_i h; simp [find, h, ih]

theorem find_insert_of_ne (m : Memory) (a x : Nat) (v : Byte) (h : x ≠ a) : (m.insert a v).find x = m.find x := by
  induction m with
  | nil => simp [insert, find, h]
  | cons c m ih =>
    rw [insert]
    split
    · simp [find, h]
    · split
      · rename_i e; simp [find, ← e, h]
      · simp [find, ih]

theorem find_erase_self (m : Memory) (a : Nat) : (m.erase a).find a = none := by
  induction m with
  | nil => rfl
  | cons c m ih =>
    rw [erase]
    split
    · exact ih
    · rename_i h; simp [find, h, ih]

theorem find_erase_of_ne (m : Memory) (a x : Nat) (h : x ≠ a) : (m.erase a).find x = m.find x := by
  induction m with
  | nil => rfl
  | cons c m ih =>
    rw [erase]
    split
    · rename_i e; simp [find, ← e, h, ih]
    · simp [find, ih]

/-- What is listed after a byte is listed: that byte, and what was listed before. -/
theorem mem_insert (m : Memory) (a : Nat) (v : Byte) (c : Host.Cell) (h : c ∈ m.insert a v) : c = (a, v) ∨ c ∈ m := by
  induction m with
  | nil => simpa [insert] using h
  | cons d m ih =>
    rw [insert] at h
    split at h
    · simpa using h
    · split at h
      · rcases List.mem_cons.mp h with h | h
        · exact .inl h
        · exact .inr (by simp [h])
      · rcases List.mem_cons.mp h with h | h
        · exact .inr (by simp [h])
        · rcases ih h with h | h
          · exact .inl h
          · exact .inr (by simp [h])

theorem mem_erase (m : Memory) (a : Nat) (c : Host.Cell) (h : c ∈ m.erase a) : c ∈ m := by
  induction m with
  | nil => exact h
  | cons d m ih =>
    rw [erase] at h
    split at h
    · simp [ih h]
    · rcases List.mem_cons.mp h with h | h
      · simp [h]
      · simp [ih h]

theorem rising_insert (m : Memory) (a : Nat) (v : Byte) (h : Rising m) : Rising (m.insert a v) := by
  induction m with
  | nil => simp [insert, Rising]
  | cons c m ih =>
    obtain ⟨hc, hm⟩ := (rising_cons c m).mp h
    rw [insert]
    split
    · rename_i hlt
      refine (rising_cons _ _).mpr ⟨?_, h⟩
      rintro d hd
      rcases List.mem_cons.mp hd with rfl | hd
      · exact hlt
      · exact Nat.lt_trans hlt (hc d hd)
    · split
      · rename_i e
        exact (rising_cons _ _).mpr ⟨fun d hd => by simpa [e] using hc d hd, hm⟩
      · rename_i h1 h2
        refine (rising_cons _ _).mpr ⟨?_, ih hm⟩
        rintro d hd
        rcases mem_insert m a v d hd with rfl | hd
        · simp only; omega
        · exact hc d hd

theorem rising_erase (m : Memory) (a : Nat) (h : Rising m) : Rising (m.erase a) := by
  induction m with
  | nil => exact h
  | cons c m ih =>
    obtain ⟨hc, hm⟩ := (rising_cons c m).mp h
    rw [erase]
    split
    · exact ih hm
    · exact (rising_cons _ _).mpr ⟨fun d hd => hc d (mem_erase m a d hd), ih hm⟩

/-- A store keeps the canonical form. -/
theorem wf_write (m : Memory) (a : Nat) (v : Byte) (h : m.wf) : (m.write a v).wf := by
  rw [write]
  split
  · exact ⟨rising_erase m a h.1, fun c hc => h.2 c (mem_erase m a c hc)⟩
  · rename_i hv
    refine ⟨rising_insert m a v h.1, fun c hc => ?_⟩
    rcases mem_insert m a v c hc with rfl | hc
    · exact hv
    · exact h.2 c hc

theorem wf_nil : wf [] := ⟨List.Pairwise.nil, by simp⟩

/-- A run of stores keeps the canonical form. -/
theorem wf_load (m : Memory) (a : Nat) (vs : List Byte) (h : m.wf) : (m.load a vs).wf := by
  induction vs generalizing m a with
  | nil => exact h
  | cons v vs ih => exact ih _ _ (wf_write m a v h)

/-- A store lists at most its own address besides what was listed. -/
theorem mem_write (m : Memory) (a : Nat) (v : Byte) (c : Host.Cell) (h : c ∈ m.write a v) : c.1 = a ∨ c ∈ m := by
  rw [write] at h
  split at h
  · exact .inr (mem_erase m a c h)
  · rcases mem_insert m a v c h with rfl | h
    · exact .inl rfl
    · exact .inr h

/-- A run of stores lists at most its own addresses besides what was listed. -/
theorem mem_load (m : Memory) (a : Nat) (vs : List Byte) (c : Host.Cell) (h : c ∈ m.load a vs) :
    (a ≤ c.1 ∧ c.1 < a + vs.length) ∨ c ∈ m := by
  induction vs generalizing m a with
  | nil => exact .inr h
  | cons v vs ih =>
    rcases ih _ _ h with h | h
    · exact .inl ⟨by omega, by simp only [List.length_cons]; omega⟩
    · rcases mem_write m a v c h with h | h
      · exact .inl ⟨by omega, by simp only [List.length_cons]; omega⟩
      · exact .inr h

/-- A read after a store to the same address gives the byte stored. -/
@[simp] theorem read_write_self (m : Memory) (a : Nat) (v : Byte) : (m.write a v).read a = v := by
  rw [write]
  split
  · rename_i h; simp [read, find_erase_self, h]
  · simp [read, find_insert_self]

/-- A store leaves every other address alone. -/
theorem read_write_of_ne (m : Memory) (a x : Nat) (v : Byte) (h : x ≠ a) : (m.write a v).read x = m.read x := by
  rw [write]
  split
  · simp [read, find_erase_of_ne m a x h]
  · simp [read, find_insert_of_ne m a x v h]

theorem read_write (m : Memory) (a x : Nat) (v : Byte) : (m.write a v).read x = if x = a then v else m.read x := by
  by_cases h : x = a
  · simp [h]
  · simp [h, read_write_of_ne m a x v h]

@[simp] theorem read_nil (a : Nat) : read [] a = unlisted := rfl

/-- After a run of stores, a byte of the run reads as the run says, and every other as before. -/
theorem read_load (m : Memory) (a x : Nat) (vs : List Byte) :
    (m.load a vs).read x = if a ≤ x then (vs[x - a]?).getD (m.read x) else m.read x := by
  induction vs generalizing m a with
  | nil => simp [load]
  | cons v vs ih =>
    rw [load, ih, read_write]
    by_cases h1 : a + 1 ≤ x
    · have e : x - a = (x - (a + 1)) + 1 := by omega
      simp [h1, show a ≤ x by omega, show x ≠ a by omega, e]
    · by_cases h2 : x = a
      · subst h2; simp
      · simp [h1, h2, show ¬ a ≤ x by omega]

/-- Memories with rising addresses that list the same bytes are equal. -/
theorem eq_of_find_eq (m n : Memory) (hm : Rising m) (hn : Rising n) (h : ∀ a, m.find a = n.find a) : m = n := by
  induction m generalizing n with
  | nil =>
    cases n with
    | nil => rfl
    | cons d n => have := h d.1; simp [find] at this
  | cons c m ih =>
    cases n with
    | nil => have := h c.1; simp [find] at this
    | cons d n =>
      obtain ⟨hc, hm'⟩ := (rising_cons c m).mp hm
      obtain ⟨hd, hn'⟩ := (rising_cons d n).mp hn
      have hcd : c.1 = d.1 := by
        rcases Nat.lt_trichotomy c.1 d.1 with hlt | he | hlt
        · have h1 := h c.1
          rw [find_of_below (d :: n) c.1 (by
            intro e he; rcases List.mem_cons.mp he with rfl | he
            · exact hlt
            · exact Nat.lt_trans hlt (hd e he))] at h1
          simp [find] at h1
        · exact he
        · have h1 := h d.1
          rw [find_of_below (c :: m) d.1 (by
            intro e he; rcases List.mem_cons.mp he with rfl | he
            · exact hlt
            · exact Nat.lt_trans hlt (hc e he))] at h1
          simp [find] at h1
      have hv : c.2 = d.2 := by
        have := h c.1
        simpa [find, hcd] using this
      have hrest : ∀ a, find m a = find n a := by
        intro a
        by_cases ha : a = c.1
        · rw [find_of_below m a (by intro e he; rw [ha]; exact hc e he),
            find_of_below n a (by intro e he; rw [ha, hcd]; exact hd e he)]
        · have := h a
          simpa [find, ha, ← hcd] using this
      rw [Prod.ext hcd hv, ih n hm' hn' hrest]

/-- In the canonical form, equal reads make equal memories. -/
theorem eq_of_read_eq (m n : Memory) (hm : m.wf) (hn : n.wf) (h : ∀ a, m.read a = n.read a) : m = n := by
  refine eq_of_find_eq m n hm.1 hn.1 fun a => ?_
  have ha := h a
  simp only [read] at ha
  cases hx : m.find a with
  | none =>
    cases hy : n.find a with
    | none => rfl
    | some w =>
      have := hn.2 _ (mem_of_find n a w hy)
      simp [hx, hy] at ha; exact absurd ha.symm this
  | some v =>
    cases hy : n.find a with
    | none =>
      have := hm.2 _ (mem_of_find m a v hx)
      simp [hx, hy] at ha; exact absurd ha this
    | some w => simpa [hx, hy] using ha

end Sys2Proof.Machine.Memory
end

