-- ==== Sys2Proof/Laws/State.lean ====
section
/-! SUPPORT. One lemma per field per update of State, and what the flags, the registers and the bytes of memory read as after each
update, so that no later proof unfolds a record update. -/

namespace Sys2Proof.Machine.State

variable (s : State)

/-! Writing the flags. -/

@[simp] theorem setFlags_a (z n h c : Bool) : (s.setFlags z n h c).a = s.a := rfl
@[simp] theorem setFlags_b (z n h c : Bool) : (s.setFlags z n h c).b = s.b := rfl
@[simp] theorem setFlags_c (z n h c : Bool) : (s.setFlags z n h c).c = s.c := rfl
@[simp] theorem setFlags_d (z n h c : Bool) : (s.setFlags z n h c).d = s.d := rfl
@[simp] theorem setFlags_e (z n h c : Bool) : (s.setFlags z n h c).e = s.e := rfl
@[simp] theorem setFlags_h (z n h c : Bool) : (s.setFlags z n h c).h = s.h := rfl
@[simp] theorem setFlags_l (z n h c : Bool) : (s.setFlags z n h c).l = s.l := rfl
@[simp] theorem setFlags_sp (z n h c : Bool) : (s.setFlags z n h c).sp = s.sp := rfl
@[simp] theorem setFlags_pc (z n h c : Bool) : (s.setFlags z n h c).pc = s.pc := rfl
@[simp] theorem setFlags_ime (z n h c : Bool) : (s.setFlags z n h c).ime = s.ime := rfl
@[simp] theorem setFlags_halted (z n h c : Bool) : (s.setFlags z n h c).halted = s.halted := rfl
@[simp] theorem setFlags_eiPending (z n h c : Bool) : (s.setFlags z n h c).eiPending = s.eiPending := rfl
@[simp] theorem setFlags_stopped (z n h c : Bool) : (s.setFlags z n h c).stopped = s.stopped := rfl
@[simp] theorem setFlags_ifReg (z n h c : Bool) : (s.setFlags z n h c).ifReg = s.ifReg := rfl
@[simp] theorem setFlags_ieReg (z n h c : Bool) : (s.setFlags z n h c).ieReg = s.ieReg := rfl
@[simp] theorem setFlags_ram (z n h c : Bool) : (s.setFlags z n h c).ram = s.ram := rfl
@[simp] theorem setFlags_faulted (z n h c : Bool) : (s.setFlags z n h c).faulted = s.faulted := rfl
@[simp] theorem setFlags_params (z n h c : Bool) : (s.setFlags z n h c).params = s.params := rfl
@[simp] theorem setFlags_answers (z n h c : Bool) : (s.setFlags z n h c).answers = s.answers := rfl
@[simp] theorem setFlags_steps (z n h c : Bool) : (s.setFlags z n h c).steps = s.steps := rfl
@[simp] theorem setFlags_past (z n h c : Bool) : (s.setFlags z n h c).past = s.past := rfl
@[simp] theorem setFlags_inbox (z n h c : Bool) : (s.setFlags z n h c).inbox = s.inbox := rfl
@[simp] theorem setFlags_pcStart (z n h c : Bool) : (s.setFlags z n h c).pcStart = s.pcStart := rfl
@[simp] theorem setFlags_cycles (z n h c : Bool) : (s.setFlags z n h c).cycles = s.cycles := rfl
@[simp] theorem setFlags_trace (z n h c : Bool) : (s.setFlags z n h c).trace = s.trace := rfl

@[simp] theorem setFlags_f (z n h c : Bool) : (s.setFlags z n h c).f = flagsByte z n h c := rfl
@[simp] theorem setFlags_flagZ (z n h c : Bool) : (s.setFlags z n h c).flagZ = z := flagsByte_z z n h c
@[simp] theorem setFlags_flagN (z n h c : Bool) : (s.setFlags z n h c).flagN = n := flagsByte_n z n h c
@[simp] theorem setFlags_flagH (z n h c : Bool) : (s.setFlags z n h c).flagH = h := flagsByte_h z n h c
@[simp] theorem setFlags_flagC (z n h c : Bool) : (s.setFlags z n h c).flagC = c := flagsByte_c z n h c
@[simp] theorem setFlags_bc (z n h c : Bool) : (s.setFlags z n h c).bc = s.bc := rfl
@[simp] theorem setFlags_de (z n h c : Bool) : (s.setFlags z n h c).de = s.de := rfl
@[simp] theorem setFlags_hl (z n h c : Bool) : (s.setFlags z n h c).hl = s.hl := rfl
@[simp] theorem setFlags_readValue (z n h c : Bool) (x : Word) : (s.setFlags z n h c).readValue x = s.readValue x := rfl
@[simp] theorem setFlags_byteAt (z n h c : Bool) (x : Word) : (s.setFlags z n h c).byteAt x = s.byteAt x := rfl
@[simp] theorem setFlags_accessible (z n h c : Bool) (x : Word) : (s.setFlags z n h c).accessible x = s.accessible x := rfl
@[simp] theorem setFlags_pending (z n h c : Bool) : (s.setFlags z n h c).pending = s.pending := rfl

@[simp] theorem setFlags_reg (z n h c : Bool) (q : Reg8) : (s.setFlags z n h c).reg q = s.reg q := by cases q <;> rfl

/-! Writing F as a byte. -/

@[simp] theorem setF_a (v : Byte) : (s.setF v).a = s.a := rfl
@[simp] theorem setF_b (v : Byte) : (s.setF v).b = s.b := rfl
@[simp] theorem setF_c (v : Byte) : (s.setF v).c = s.c := rfl
@[simp] theorem setF_d (v : Byte) : (s.setF v).d = s.d := rfl
@[simp] theorem setF_e (v : Byte) : (s.setF v).e = s.e := rfl
@[simp] theorem setF_h (v : Byte) : (s.setF v).h = s.h := rfl
@[simp] theorem setF_l (v : Byte) : (s.setF v).l = s.l := rfl
@[simp] theorem setF_sp (v : Byte) : (s.setF v).sp = s.sp := rfl
@[simp] theorem setF_pc (v : Byte) : (s.setF v).pc = s.pc := rfl
@[simp] theorem setF_ime (v : Byte) : (s.setF v).ime = s.ime := rfl
@[simp] theorem setF_halted (v : Byte) : (s.setF v).halted = s.halted := rfl
@[simp] theorem setF_eiPending (v : Byte) : (s.setF v).eiPending = s.eiPending := rfl
@[simp] theorem setF_stopped (v : Byte) : (s.setF v).stopped = s.stopped := rfl
@[simp] theorem setF_ifReg (v : Byte) : (s.setF v).ifReg = s.ifReg := rfl
@[simp] theorem setF_ieReg (v : Byte) : (s.setF v).ieReg = s.ieReg := rfl
@[simp] theorem setF_ram (v : Byte) : (s.setF v).ram = s.ram := rfl
@[simp] theorem setF_faulted (v : Byte) : (s.setF v).faulted = s.faulted := rfl
@[simp] theorem setF_params (v : Byte) : (s.setF v).params = s.params := rfl
@[simp] theorem setF_answers (v : Byte) : (s.setF v).answers = s.answers := rfl
@[simp] theorem setF_steps (v : Byte) : (s.setF v).steps = s.steps := rfl
@[simp] theorem setF_past (v : Byte) : (s.setF v).past = s.past := rfl
@[simp] theorem setF_inbox (v : Byte) : (s.setF v).inbox = s.inbox := rfl
@[simp] theorem setF_pcStart (v : Byte) : (s.setF v).pcStart = s.pcStart := rfl
@[simp] theorem setF_cycles (v : Byte) : (s.setF v).cycles = s.cycles := rfl
@[simp] theorem setF_trace (v : Byte) : (s.setF v).trace = s.trace := rfl

@[simp] theorem setF_f (v : Byte) : (s.setF v).f = v &&& 0xF0 := rfl

/-! Writing a register. -/

@[simp] theorem setReg_f (r : Reg8) (v : Byte) : (s.setReg r v).f = s.f := by cases r <;> rfl
@[simp] theorem setReg_sp (r : Reg8) (v : Byte) : (s.setReg r v).sp = s.sp := by cases r <;> rfl
@[simp] theorem setReg_pc (r : Reg8) (v : Byte) : (s.setReg r v).pc = s.pc := by cases r <;> rfl
@[simp] theorem setReg_ime (r : Reg8) (v : Byte) : (s.setReg r v).ime = s.ime := by cases r <;> rfl
@[simp] theorem setReg_halted (r : Reg8) (v : Byte) : (s.setReg r v).halted = s.halted := by cases r <;> rfl
@[simp] theorem setReg_eiPending (r : Reg8) (v : Byte) : (s.setReg r v).eiPending = s.eiPending := by cases r <;> rfl
@[simp] theorem setReg_stopped (r : Reg8) (v : Byte) : (s.setReg r v).stopped = s.stopped := by cases r <;> rfl
@[simp] theorem setReg_ifReg (r : Reg8) (v : Byte) : (s.setReg r v).ifReg = s.ifReg := by cases r <;> rfl
@[simp] theorem setReg_ieReg (r : Reg8) (v : Byte) : (s.setReg r v).ieReg = s.ieReg := by cases r <;> rfl
@[simp] theorem setReg_ram (r : Reg8) (v : Byte) : (s.setReg r v).ram = s.ram := by cases r <;> rfl
@[simp] theorem setReg_faulted (r : Reg8) (v : Byte) : (s.setReg r v).faulted = s.faulted := by cases r <;> rfl
@[simp] theorem setReg_params (r : Reg8) (v : Byte) : (s.setReg r v).params = s.params := by cases r <;> rfl
@[simp] theorem setReg_answers (r : Reg8) (v : Byte) : (s.setReg r v).answers = s.answers := by cases r <;> rfl
@[simp] theorem setReg_steps (r : Reg8) (v : Byte) : (s.setReg r v).steps = s.steps := by cases r <;> rfl
@[simp] theorem setReg_past (r : Reg8) (v : Byte) : (s.setReg r v).past = s.past := by cases r <;> rfl
@[simp] theorem setReg_inbox (r : Reg8) (v : Byte) : (s.setReg r v).inbox = s.inbox := by cases r <;> rfl
@[simp] theorem setReg_pcStart (r : Reg8) (v : Byte) : (s.setReg r v).pcStart = s.pcStart := by cases r <;> rfl
@[simp] theorem setReg_cycles (r : Reg8) (v : Byte) : (s.setReg r v).cycles = s.cycles := by cases r <;> rfl
@[simp] theorem setReg_trace (r : Reg8) (v : Byte) : (s.setReg r v).trace = s.trace := by cases r <;> rfl

@[simp] theorem setReg_flagZ (r : Reg8) (v : Byte) : (s.setReg r v).flagZ = s.flagZ := by cases r <;> rfl
@[simp] theorem setReg_flagN (r : Reg8) (v : Byte) : (s.setReg r v).flagN = s.flagN := by cases r <;> rfl
@[simp] theorem setReg_flagH (r : Reg8) (v : Byte) : (s.setReg r v).flagH = s.flagH := by cases r <;> rfl
@[simp] theorem setReg_flagC (r : Reg8) (v : Byte) : (s.setReg r v).flagC = s.flagC := by cases r <;> rfl
@[simp] theorem setReg_byteAt (r : Reg8) (v : Byte) (x : Word) : (s.setReg r v).byteAt x = s.byteAt x := by cases r <;> rfl
@[simp] theorem setReg_accessible (r : Reg8) (v : Byte) (x : Word) : (s.setReg r v).accessible x = s.accessible x := by cases r <;> rfl
@[simp] theorem setReg_pending (r : Reg8) (v : Byte) : (s.setReg r v).pending = s.pending := by cases r <;> rfl
@[simp] theorem setReg_readValue (r : Reg8) (v : Byte) (x : Word) : (s.setReg r v).readValue x = s.readValue x := by cases r <;> rfl

@[simp] theorem setReg_reg_self (r : Reg8) (v : Byte) : (s.setReg r v).reg r = v := by cases r <;> rfl

theorem setReg_reg_of_ne (r q : Reg8) (v : Byte) (h : q ≠ r) : (s.setReg r v).reg q = s.reg q := by
  cases r <;> cases q <;> first | rfl | exact absurd rfl h

@[simp] theorem setReg_self (r : Reg8) : s.setReg r (s.reg r) = s := by cases r <;> rfl

/-! Writing HL. -/

@[simp] theorem setHl_a (v : Word) : (s.setHl v).a = s.a := rfl
@[simp] theorem setHl_f (v : Word) : (s.setHl v).f = s.f := rfl
@[simp] theorem setHl_b (v : Word) : (s.setHl v).b = s.b := rfl
@[simp] theorem setHl_c (v : Word) : (s.setHl v).c = s.c := rfl
@[simp] theorem setHl_d (v : Word) : (s.setHl v).d = s.d := rfl
@[simp] theorem setHl_e (v : Word) : (s.setHl v).e = s.e := rfl
@[simp] theorem setHl_sp (v : Word) : (s.setHl v).sp = s.sp := rfl
@[simp] theorem setHl_pc (v : Word) : (s.setHl v).pc = s.pc := rfl
@[simp] theorem setHl_ime (v : Word) : (s.setHl v).ime = s.ime := rfl
@[simp] theorem setHl_halted (v : Word) : (s.setHl v).halted = s.halted := rfl
@[simp] theorem setHl_eiPending (v : Word) : (s.setHl v).eiPending = s.eiPending := rfl
@[simp] theorem setHl_stopped (v : Word) : (s.setHl v).stopped = s.stopped := rfl
@[simp] theorem setHl_ifReg (v : Word) : (s.setHl v).ifReg = s.ifReg := rfl
@[simp] theorem setHl_ieReg (v : Word) : (s.setHl v).ieReg = s.ieReg := rfl
@[simp] theorem setHl_ram (v : Word) : (s.setHl v).ram = s.ram := rfl
@[simp] theorem setHl_faulted (v : Word) : (s.setHl v).faulted = s.faulted := rfl
@[simp] theorem setHl_params (v : Word) : (s.setHl v).params = s.params := rfl
@[simp] theorem setHl_answers (v : Word) : (s.setHl v).answers = s.answers := rfl
@[simp] theorem setHl_steps (v : Word) : (s.setHl v).steps = s.steps := rfl
@[simp] theorem setHl_past (v : Word) : (s.setHl v).past = s.past := rfl
@[simp] theorem setHl_inbox (v : Word) : (s.setHl v).inbox = s.inbox := rfl
@[simp] theorem setHl_pcStart (v : Word) : (s.setHl v).pcStart = s.pcStart := rfl
@[simp] theorem setHl_cycles (v : Word) : (s.setHl v).cycles = s.cycles := rfl
@[simp] theorem setHl_trace (v : Word) : (s.setHl v).trace = s.trace := rfl

@[simp] theorem setHl_flagZ (v : Word) : (s.setHl v).flagZ = s.flagZ := rfl
@[simp] theorem setHl_flagN (v : Word) : (s.setHl v).flagN = s.flagN := rfl
@[simp] theorem setHl_flagH (v : Word) : (s.setHl v).flagH = s.flagH := rfl
@[simp] theorem setHl_flagC (v : Word) : (s.setHl v).flagC = s.flagC := rfl
@[simp] theorem setHl_byteAt (v : Word) (x : Word) : (s.setHl v).byteAt x = s.byteAt x := rfl
@[simp] theorem setHl_accessible (v : Word) (x : Word) : (s.setHl v).accessible x = s.accessible x := rfl
@[simp] theorem setHl_pending (v : Word) : (s.setHl v).pending = s.pending := rfl
@[simp] theorem setHl_readValue (v : Word) (x : Word) : (s.setHl v).readValue x = s.readValue x := rfl

@[simp] theorem setHl_hl (v : Word) : (s.setHl v).hl = v := wordOf_bytes v

/-! Writing a pair of the rp field. -/

@[simp] theorem setPair_a (p : Pair) (v : Word) : (s.setPair p v).a = s.a := by cases p <;> rfl
@[simp] theorem setPair_f (p : Pair) (v : Word) : (s.setPair p v).f = s.f := by cases p <;> rfl
@[simp] theorem setPair_pc (p : Pair) (v : Word) : (s.setPair p v).pc = s.pc := by cases p <;> rfl
@[simp] theorem setPair_ime (p : Pair) (v : Word) : (s.setPair p v).ime = s.ime := by cases p <;> rfl
@[simp] theorem setPair_halted (p : Pair) (v : Word) : (s.setPair p v).halted = s.halted := by cases p <;> rfl
@[simp] theorem setPair_eiPending (p : Pair) (v : Word) : (s.setPair p v).eiPending = s.eiPending := by cases p <;> rfl
@[simp] theorem setPair_stopped (p : Pair) (v : Word) : (s.setPair p v).stopped = s.stopped := by cases p <;> rfl
@[simp] theorem setPair_ifReg (p : Pair) (v : Word) : (s.setPair p v).ifReg = s.ifReg := by cases p <;> rfl
@[simp] theorem setPair_ieReg (p : Pair) (v : Word) : (s.setPair p v).ieReg = s.ieReg := by cases p <;> rfl
@[simp] theorem setPair_ram (p : Pair) (v : Word) : (s.setPair p v).ram = s.ram := by cases p <;> rfl
@[simp] theorem setPair_faulted (p : Pair) (v : Word) : (s.setPair p v).faulted = s.faulted := by cases p <;> rfl
@[simp] theorem setPair_params (p : Pair) (v : Word) : (s.setPair p v).params = s.params := by cases p <;> rfl
@[simp] theorem setPair_answers (p : Pair) (v : Word) : (s.setPair p v).answers = s.answers := by cases p <;> rfl
@[simp] theorem setPair_steps (p : Pair) (v : Word) : (s.setPair p v).steps = s.steps := by cases p <;> rfl
@[simp] theorem setPair_past (p : Pair) (v : Word) : (s.setPair p v).past = s.past := by cases p <;> rfl
@[simp] theorem setPair_inbox (p : Pair) (v : Word) : (s.setPair p v).inbox = s.inbox := by cases p <;> rfl
@[simp] theorem setPair_pcStart (p : Pair) (v : Word) : (s.setPair p v).pcStart = s.pcStart := by cases p <;> rfl
@[simp] theorem setPair_cycles (p : Pair) (v : Word) : (s.setPair p v).cycles = s.cycles := by cases p <;> rfl
@[simp] theorem setPair_trace (p : Pair) (v : Word) : (s.setPair p v).trace = s.trace := by cases p <;> rfl

@[simp] theorem setPair_flagZ (p : Pair) (v : Word) : (s.setPair p v).flagZ = s.flagZ := by cases p <;> rfl
@[simp] theorem setPair_flagN (p : Pair) (v : Word) : (s.setPair p v).flagN = s.flagN := by cases p <;> rfl
@[simp] theorem setPair_flagH (p : Pair) (v : Word) : (s.setPair p v).flagH = s.flagH := by cases p <;> rfl
@[simp] theorem setPair_flagC (p : Pair) (v : Word) : (s.setPair p v).flagC = s.flagC := by cases p <;> rfl
@[simp] theorem setPair_byteAt (p : Pair) (v : Word) (x : Word) : (s.setPair p v).byteAt x = s.byteAt x := by cases p <;> rfl
@[simp] theorem setPair_accessible (p : Pair) (v : Word) (x : Word) : (s.setPair p v).accessible x = s.accessible x := by cases p <;> rfl
@[simp] theorem setPair_pending (p : Pair) (v : Word) : (s.setPair p v).pending = s.pending := by cases p <;> rfl
@[simp] theorem setPair_readValue (p : Pair) (v : Word) (x : Word) : (s.setPair p v).readValue x = s.readValue x := by cases p <;> rfl

@[simp] theorem setPair_pair_self (p : Pair) (v : Word) : (s.setPair p v).pair p = v := by
  cases p
  case sp => rfl
  all_goals exact wordOf_bytes v

/-! Writing a pair of the rp2 field. -/

@[simp] theorem setStackPair_sp (p : StackPair) (v : Word) : (s.setStackPair p v).sp = s.sp := by cases p <;> rfl
@[simp] theorem setStackPair_pc (p : StackPair) (v : Word) : (s.setStackPair p v).pc = s.pc := by cases p <;> rfl
@[simp] theorem setStackPair_ime (p : StackPair) (v : Word) : (s.setStackPair p v).ime = s.ime := by cases p <;> rfl
@[simp] theorem setStackPair_halted (p : StackPair) (v : Word) : (s.setStackPair p v).halted = s.halted := by cases p <;> rfl
@[simp] theorem setStackPair_eiPending (p : StackPair) (v : Word) : (s.setStackPair p v).eiPending = s.eiPending := by cases p <;> rfl
@[simp] theorem setStackPair_stopped (p : StackPair) (v : Word) : (s.setStackPair p v).stopped = s.stopped := by cases p <;> rfl
@[simp] theorem setStackPair_ifReg (p : StackPair) (v : Word) : (s.setStackPair p v).ifReg = s.ifReg := by cases p <;> rfl
@[simp] theorem setStackPair_ieReg (p : StackPair) (v : Word) : (s.setStackPair p v).ieReg = s.ieReg := by cases p <;> rfl
@[simp] theorem setStackPair_ram (p : StackPair) (v : Word) : (s.setStackPair p v).ram = s.ram := by cases p <;> rfl
@[simp] theorem setStackPair_faulted (p : StackPair) (v : Word) : (s.setStackPair p v).faulted = s.faulted := by cases p <;> rfl
@[simp] theorem setStackPair_params (p : StackPair) (v : Word) : (s.setStackPair p v).params = s.params := by cases p <;> rfl
@[simp] theorem setStackPair_answers (p : StackPair) (v : Word) : (s.setStackPair p v).answers = s.answers := by cases p <;> rfl
@[simp] theorem setStackPair_steps (p : StackPair) (v : Word) : (s.setStackPair p v).steps = s.steps := by cases p <;> rfl
@[simp] theorem setStackPair_past (p : StackPair) (v : Word) : (s.setStackPair p v).past = s.past := by cases p <;> rfl
@[simp] theorem setStackPair_inbox (p : StackPair) (v : Word) : (s.setStackPair p v).inbox = s.inbox := by cases p <;> rfl
@[simp] theorem setStackPair_pcStart (p : StackPair) (v : Word) : (s.setStackPair p v).pcStart = s.pcStart := by cases p <;> rfl
@[simp] theorem setStackPair_cycles (p : StackPair) (v : Word) : (s.setStackPair p v).cycles = s.cycles := by cases p <;> rfl
@[simp] theorem setStackPair_trace (p : StackPair) (v : Word) : (s.setStackPair p v).trace = s.trace := by cases p <;> rfl

@[simp] theorem setStackPair_byteAt (p : StackPair) (v : Word) (x : Word) : (s.setStackPair p v).byteAt x = s.byteAt x := by cases p <;> rfl
@[simp] theorem setStackPair_accessible (p : StackPair) (v : Word) (x : Word) : (s.setStackPair p v).accessible x = s.accessible x := by cases p <;> rfl
@[simp] theorem setStackPair_pending (p : StackPair) (v : Word) : (s.setStackPair p v).pending = s.pending := by cases p <;> rfl
@[simp] theorem setStackPair_readValue (p : StackPair) (v : Word) (x : Word) : (s.setStackPair p v).readValue x = s.readValue x := by cases p <;> rfl

/-! Applying an ALU operation. -/

@[simp] theorem alu_b (op : AluOp) (v : Byte) : (s.alu op v).b = s.b := by cases op <;> rfl
@[simp] theorem alu_c (op : AluOp) (v : Byte) : (s.alu op v).c = s.c := by cases op <;> rfl
@[simp] theorem alu_d (op : AluOp) (v : Byte) : (s.alu op v).d = s.d := by cases op <;> rfl
@[simp] theorem alu_e (op : AluOp) (v : Byte) : (s.alu op v).e = s.e := by cases op <;> rfl
@[simp] theorem alu_h (op : AluOp) (v : Byte) : (s.alu op v).h = s.h := by cases op <;> rfl
@[simp] theorem alu_l (op : AluOp) (v : Byte) : (s.alu op v).l = s.l := by cases op <;> rfl
@[simp] theorem alu_sp (op : AluOp) (v : Byte) : (s.alu op v).sp = s.sp := by cases op <;> rfl
@[simp] theorem alu_pc (op : AluOp) (v : Byte) : (s.alu op v).pc = s.pc := by cases op <;> rfl
@[simp] theorem alu_ime (op : AluOp) (v : Byte) : (s.alu op v).ime = s.ime := by cases op <;> rfl
@[simp] theorem alu_halted (op : AluOp) (v : Byte) : (s.alu op v).halted = s.halted := by cases op <;> rfl
@[simp] theorem alu_eiPending (op : AluOp) (v : Byte) : (s.alu op v).eiPending = s.eiPending := by cases op <;> rfl
@[simp] theorem alu_stopped (op : AluOp) (v : Byte) : (s.alu op v).stopped = s.stopped := by cases op <;> rfl
@[simp] theorem alu_ifReg (op : AluOp) (v : Byte) : (s.alu op v).ifReg = s.ifReg := by cases op <;> rfl
@[simp] theorem alu_ieReg (op : AluOp) (v : Byte) : (s.alu op v).ieReg = s.ieReg := by cases op <;> rfl
@[simp] theorem alu_ram (op : AluOp) (v : Byte) : (s.alu op v).ram = s.ram := by cases op <;> rfl
@[simp] theorem alu_faulted (op : AluOp) (v : Byte) : (s.alu op v).faulted = s.faulted := by cases op <;> rfl
@[simp] theorem alu_params (op : AluOp) (v : Byte) : (s.alu op v).params = s.params := by cases op <;> rfl
@[simp] theorem alu_answers (op : AluOp) (v : Byte) : (s.alu op v).answers = s.answers := by cases op <;> rfl
@[simp] theorem alu_steps (op : AluOp) (v : Byte) : (s.alu op v).steps = s.steps := by cases op <;> rfl
@[simp] theorem alu_past (op : AluOp) (v : Byte) : (s.alu op v).past = s.past := by cases op <;> rfl
@[simp] theorem alu_inbox (op : AluOp) (v : Byte) : (s.alu op v).inbox = s.inbox := by cases op <;> rfl
@[simp] theorem alu_pcStart (op : AluOp) (v : Byte) : (s.alu op v).pcStart = s.pcStart := by cases op <;> rfl
@[simp] theorem alu_cycles (op : AluOp) (v : Byte) : (s.alu op v).cycles = s.cycles := by cases op <;> rfl
@[simp] theorem alu_trace (op : AluOp) (v : Byte) : (s.alu op v).trace = s.trace := by cases op <;> rfl

@[simp] theorem alu_byteAt (op : AluOp) (v : Byte) (x : Word) : (s.alu op v).byteAt x = s.byteAt x := by cases op <;> rfl
@[simp] theorem alu_accessible (op : AluOp) (v : Byte) (x : Word) : (s.alu op v).accessible x = s.accessible x := by cases op <;> rfl
@[simp] theorem alu_pending (op : AluOp) (v : Byte) : (s.alu op v).pending = s.pending := by cases op <;> rfl
@[simp] theorem alu_readValue (op : AluOp) (v : Byte) (x : Word) : (s.alu op v).readValue x = s.readValue x := by cases op <;> rfl
@[simp] theorem alu_hl (op : AluOp) (v : Byte) : (s.alu op v).hl = s.hl := by cases op <;> rfl

theorem alu_f (op : AluOp) (v : Byte) :
    (s.alu op v).f = flagsByte (aluOut op s.a v s.flagC).z (aluOut op s.a v s.flagC).n (aluOut op s.a v s.flagC).h
      (aluOut op s.a v s.flagC).c := by cases op <;> rfl

theorem alu_a (op : AluOp) (v : Byte) : (s.alu op v).a = if op = .cp then s.a else (aluOut op s.a v s.flagC).val := by
  cases op <;> rfl

/-! A read or fetch. -/

@[simp] theorem afterRead_a (k : Access) (x : Word) : (s.afterRead k x).a = s.a := rfl
@[simp] theorem afterRead_f (k : Access) (x : Word) : (s.afterRead k x).f = s.f := rfl
@[simp] theorem afterRead_b (k : Access) (x : Word) : (s.afterRead k x).b = s.b := rfl
@[simp] theorem afterRead_c (k : Access) (x : Word) : (s.afterRead k x).c = s.c := rfl
@[simp] theorem afterRead_d (k : Access) (x : Word) : (s.afterRead k x).d = s.d := rfl
@[simp] theorem afterRead_e (k : Access) (x : Word) : (s.afterRead k x).e = s.e := rfl
@[simp] theorem afterRead_h (k : Access) (x : Word) : (s.afterRead k x).h = s.h := rfl
@[simp] theorem afterRead_l (k : Access) (x : Word) : (s.afterRead k x).l = s.l := rfl
@[simp] theorem afterRead_sp (k : Access) (x : Word) : (s.afterRead k x).sp = s.sp := rfl
@[simp] theorem afterRead_pc (k : Access) (x : Word) : (s.afterRead k x).pc = s.pc := rfl
@[simp] theorem afterRead_ime (k : Access) (x : Word) : (s.afterRead k x).ime = s.ime := rfl
@[simp] theorem afterRead_halted (k : Access) (x : Word) : (s.afterRead k x).halted = s.halted := rfl
@[simp] theorem afterRead_eiPending (k : Access) (x : Word) : (s.afterRead k x).eiPending = s.eiPending := rfl
@[simp] theorem afterRead_stopped (k : Access) (x : Word) : (s.afterRead k x).stopped = s.stopped := rfl
@[simp] theorem afterRead_ifReg (k : Access) (x : Word) : (s.afterRead k x).ifReg = s.ifReg := rfl
@[simp] theorem afterRead_ieReg (k : Access) (x : Word) : (s.afterRead k x).ieReg = s.ieReg := rfl
@[simp] theorem afterRead_ram (k : Access) (x : Word) : (s.afterRead k x).ram = s.ram := rfl
@[simp] theorem afterRead_faulted (k : Access) (x : Word) : (s.afterRead k x).faulted = s.faulted := rfl
@[simp] theorem afterRead_params (k : Access) (x : Word) : (s.afterRead k x).params = s.params := rfl
@[simp] theorem afterRead_steps (k : Access) (x : Word) : (s.afterRead k x).steps = s.steps := rfl
@[simp] theorem afterRead_past (k : Access) (x : Word) : (s.afterRead k x).past = s.past := rfl
@[simp] theorem afterRead_inbox (k : Access) (x : Word) : (s.afterRead k x).inbox = s.inbox := rfl
@[simp] theorem afterRead_pcStart (k : Access) (x : Word) : (s.afterRead k x).pcStart = s.pcStart := rfl
@[simp] theorem afterRead_cycles (k : Access) (x : Word) : (s.afterRead k x).cycles = s.cycles := rfl

@[simp] theorem afterRead_flagZ (k : Access) (y : Word) : (s.afterRead k y).flagZ = s.flagZ := rfl
@[simp] theorem afterRead_flagN (k : Access) (y : Word) : (s.afterRead k y).flagN = s.flagN := rfl
@[simp] theorem afterRead_flagH (k : Access) (y : Word) : (s.afterRead k y).flagH = s.flagH := rfl
@[simp] theorem afterRead_flagC (k : Access) (y : Word) : (s.afterRead k y).flagC = s.flagC := rfl
@[simp] theorem afterRead_byteAt (k : Access) (y : Word) (x : Word) : (s.afterRead k y).byteAt x = s.byteAt x := rfl
@[simp] theorem afterRead_accessible (k : Access) (y : Word) (x : Word) : (s.afterRead k y).accessible x = s.accessible x := rfl
@[simp] theorem afterRead_pending (k : Access) (y : Word) : (s.afterRead k y).pending = s.pending := rfl
@[simp] theorem afterRead_bc (k : Access) (y : Word) : (s.afterRead k y).bc = s.bc := rfl
@[simp] theorem afterRead_de (k : Access) (y : Word) : (s.afterRead k y).de = s.de := rfl
@[simp] theorem afterRead_hl (k : Access) (y : Word) : (s.afterRead k y).hl = s.hl := rfl

@[simp] theorem afterRead_reg (k : Access) (x : Word) (q : Reg8) : (s.afterRead k x).reg q = s.reg q := by cases q <;> rfl
@[simp] theorem afterRead_answers (k : Access) (x : Word) : (s.afterRead k x).answers = s.answers.used (region s.params x) := rfl
@[simp] theorem afterRead_trace (k : Access) (x : Word) : (s.afterRead k x).trace = s.trace ++ [⟨k, x, s.readValue x⟩] := rfl

/-! A write. -/

@[simp] theorem afterWrite_a (x : Word) (v : Byte) : (s.afterWrite x v).a = s.a := by unfold afterWrite; split <;> rfl
@[simp] theorem afterWrite_f (x : Word) (v : Byte) : (s.afterWrite x v).f = s.f := by unfold afterWrite; split <;> rfl
@[simp] theorem afterWrite_b (x : Word) (v : Byte) : (s.afterWrite x v).b = s.b := by unfold afterWrite; split <;> rfl
@[simp] theorem afterWrite_c (x : Word) (v : Byte) : (s.afterWrite x v).c = s.c := by unfold afterWrite; split <;> rfl
@[simp] theorem afterWrite_d (x : Word) (v : Byte) : (s.afterWrite x v).d = s.d := by unfold afterWrite; split <;> rfl
@[simp] theorem afterWrite_e (x : Word) (v : Byte) : (s.afterWrite x v).e = s.e := by unfold afterWrite; split <;> rfl
@[simp] theorem afterWrite_h (x : Word) (v : Byte) : (s.afterWrite x v).h = s.h := by unfold afterWrite; split <;> rfl
@[simp] theorem afterWrite_l (x : Word) (v : Byte) : (s.afterWrite x v).l = s.l := by unfold afterWrite; split <;> rfl
@[simp] theorem afterWrite_sp (x : Word) (v : Byte) : (s.afterWrite x v).sp = s.sp := by unfold afterWrite; split <;> rfl
@[simp] theorem afterWrite_pc (x : Word) (v : Byte) : (s.afterWrite x v).pc = s.pc := by unfold afterWrite; split <;> rfl
@[simp] theorem afterWrite_ime (x : Word) (v : Byte) : (s.afterWrite x v).ime = s.ime := by unfold afterWrite; split <;> rfl
@[simp] theorem afterWrite_halted (x : Word) (v : Byte) : (s.afterWrite x v).halted = s.halted := by unfold afterWrite; split <;> rfl
@[simp] theorem afterWrite_eiPending (x : Word) (v : Byte) : (s.afterWrite x v).eiPending = s.eiPending := by unfold afterWrite; split <;> rfl
@[simp] theorem afterWrite_stopped (x : Word) (v : Byte) : (s.afterWrite x v).stopped = s.stopped := by unfold afterWrite; split <;> rfl
@[simp] theorem afterWrite_faulted (x : Word) (v : Byte) : (s.afterWrite x v).faulted = s.faulted := by unfold afterWrite; split <;> rfl
@[simp] theorem afterWrite_params (x : Word) (v : Byte) : (s.afterWrite x v).params = s.params := by unfold afterWrite; split <;> rfl
@[simp] theorem afterWrite_steps (x : Word) (v : Byte) : (s.afterWrite x v).steps = s.steps := by unfold afterWrite; split <;> rfl
@[simp] theorem afterWrite_past (x : Word) (v : Byte) : (s.afterWrite x v).past = s.past := by unfold afterWrite; split <;> rfl
@[simp] theorem afterWrite_inbox (x : Word) (v : Byte) : (s.afterWrite x v).inbox = s.inbox := by unfold afterWrite; split <;> rfl
@[simp] theorem afterWrite_pcStart (x : Word) (v : Byte) : (s.afterWrite x v).pcStart = s.pcStart := by unfold afterWrite; split <;> rfl
@[simp] theorem afterWrite_cycles (x : Word) (v : Byte) : (s.afterWrite x v).cycles = s.cycles := by unfold afterWrite; split <;> rfl

@[simp] theorem afterWrite_flagZ (y : Word) (v : Byte) : (s.afterWrite y v).flagZ = s.flagZ := by unfold afterWrite; split <;> rfl
@[simp] theorem afterWrite_flagN (y : Word) (v : Byte) : (s.afterWrite y v).flagN = s.flagN := by unfold afterWrite; split <;> rfl
@[simp] theorem afterWrite_flagH (y : Word) (v : Byte) : (s.afterWrite y v).flagH = s.flagH := by unfold afterWrite; split <;> rfl
@[simp] theorem afterWrite_flagC (y : Word) (v : Byte) : (s.afterWrite y v).flagC = s.flagC := by unfold afterWrite; split <;> rfl
@[simp] theorem afterWrite_bc (y : Word) (v : Byte) : (s.afterWrite y v).bc = s.bc := by unfold afterWrite; split <;> rfl
@[simp] theorem afterWrite_de (y : Word) (v : Byte) : (s.afterWrite y v).de = s.de := by unfold afterWrite; split <;> rfl
@[simp] theorem afterWrite_hl (y : Word) (v : Byte) : (s.afterWrite y v).hl = s.hl := by unfold afterWrite; split <;> rfl
@[simp] theorem afterWrite_accessible (y : Word) (v : Byte) (x : Word) : (s.afterWrite y v).accessible x = s.accessible x := by unfold afterWrite; split <;> rfl

@[simp] theorem afterWrite_answers (x : Word) (v : Byte) :
    (s.afterWrite x v).answers = s.answers.withdrawn (region s.params x) := by
  unfold afterWrite; split <;> rfl

@[simp] theorem afterWrite_trace (x : Word) (v : Byte) : (s.afterWrite x v).trace = s.trace ++ [⟨.write, x, v⟩] := by
  unfold afterWrite; split <;> rfl

/-! The beginning of a step. -/

@[simp] theorem beginStep_a : (s.beginStep).a = s.a := rfl
@[simp] theorem beginStep_f : (s.beginStep).f = s.f := rfl
@[simp] theorem beginStep_b : (s.beginStep).b = s.b := rfl
@[simp] theorem beginStep_c : (s.beginStep).c = s.c := rfl
@[simp] theorem beginStep_d : (s.beginStep).d = s.d := rfl
@[simp] theorem beginStep_e : (s.beginStep).e = s.e := rfl
@[simp] theorem beginStep_h : (s.beginStep).h = s.h := rfl
@[simp] theorem beginStep_l : (s.beginStep).l = s.l := rfl
@[simp] theorem beginStep_sp : (s.beginStep).sp = s.sp := rfl
@[simp] theorem beginStep_pc : (s.beginStep).pc = s.pc := rfl
@[simp] theorem beginStep_ime : (s.beginStep).ime = s.ime := rfl
@[simp] theorem beginStep_halted : (s.beginStep).halted = s.halted := rfl
@[simp] theorem beginStep_eiPending : (s.beginStep).eiPending = s.eiPending := rfl
@[simp] theorem beginStep_stopped : (s.beginStep).stopped = s.stopped := rfl
@[simp] theorem beginStep_ifReg : (s.beginStep).ifReg = s.ifReg := rfl
@[simp] theorem beginStep_ieReg : (s.beginStep).ieReg = s.ieReg := rfl
@[simp] theorem beginStep_ram : (s.beginStep).ram = s.ram := rfl
@[simp] theorem beginStep_faulted : (s.beginStep).faulted = s.faulted := rfl
@[simp] theorem beginStep_params : (s.beginStep).params = s.params := rfl
@[simp] theorem beginStep_answers : (s.beginStep).answers = s.answers := rfl
@[simp] theorem beginStep_inbox : (s.beginStep).inbox = s.inbox := rfl
@[simp] theorem beginStep_pcStart : (s.beginStep).pcStart = s.pcStart := rfl

/-! The wake from halt. -/

@[simp] theorem wake_a : (s.wake).a = s.a := by unfold wake; split <;> rfl
@[simp] theorem wake_f : (s.wake).f = s.f := by unfold wake; split <;> rfl
@[simp] theorem wake_b : (s.wake).b = s.b := by unfold wake; split <;> rfl
@[simp] theorem wake_c : (s.wake).c = s.c := by unfold wake; split <;> rfl
@[simp] theorem wake_d : (s.wake).d = s.d := by unfold wake; split <;> rfl
@[simp] theorem wake_e : (s.wake).e = s.e := by unfold wake; split <;> rfl
@[simp] theorem wake_h : (s.wake).h = s.h := by unfold wake; split <;> rfl
@[simp] theorem wake_l : (s.wake).l = s.l := by unfold wake; split <;> rfl
@[simp] theorem wake_sp : (s.wake).sp = s.sp := by unfold wake; split <;> rfl
@[simp] theorem wake_pc : (s.wake).pc = s.pc := by unfold wake; split <;> rfl
@[simp] theorem wake_ime : (s.wake).ime = s.ime := by unfold wake; split <;> rfl
@[simp] theorem wake_eiPending : (s.wake).eiPending = s.eiPending := by unfold wake; split <;> rfl
@[simp] theorem wake_stopped : (s.wake).stopped = s.stopped := by unfold wake; split <;> rfl
@[simp] theorem wake_ifReg : (s.wake).ifReg = s.ifReg := by unfold wake; split <;> rfl
@[simp] theorem wake_ieReg : (s.wake).ieReg = s.ieReg := by unfold wake; split <;> rfl
@[simp] theorem wake_ram : (s.wake).ram = s.ram := by unfold wake; split <;> rfl
@[simp] theorem wake_faulted : (s.wake).faulted = s.faulted := by unfold wake; split <;> rfl
@[simp] theorem wake_params : (s.wake).params = s.params := by unfold wake; split <;> rfl
@[simp] theorem wake_answers : (s.wake).answers = s.answers := by unfold wake; split <;> rfl
@[simp] theorem wake_steps : (s.wake).steps = s.steps := by unfold wake; split <;> rfl
@[simp] theorem wake_past : (s.wake).past = s.past := by unfold wake; split <;> rfl
@[simp] theorem wake_inbox : (s.wake).inbox = s.inbox := by unfold wake; split <;> rfl
@[simp] theorem wake_pcStart : (s.wake).pcStart = s.pcStart := by unfold wake; split <;> rfl
@[simp] theorem wake_cycles : (s.wake).cycles = s.cycles := by unfold wake; split <;> rfl
@[simp] theorem wake_trace : (s.wake).trace = s.trace := by unfold wake; split <;> rfl

/-! A pending enable taking effect. -/

@[simp] theorem latchEnable_a : (s.latchEnable).a = s.a := by unfold latchEnable; split <;> rfl
@[simp] theorem latchEnable_f : (s.latchEnable).f = s.f := by unfold latchEnable; split <;> rfl
@[simp] theorem latchEnable_b : (s.latchEnable).b = s.b := by unfold latchEnable; split <;> rfl
@[simp] theorem latchEnable_c : (s.latchEnable).c = s.c := by unfold latchEnable; split <;> rfl
@[simp] theorem latchEnable_d : (s.latchEnable).d = s.d := by unfold latchEnable; split <;> rfl
@[simp] theorem latchEnable_e : (s.latchEnable).e = s.e := by unfold latchEnable; split <;> rfl
@[simp] theorem latchEnable_h : (s.latchEnable).h = s.h := by unfold latchEnable; split <;> rfl
@[simp] theorem latchEnable_l : (s.latchEnable).l = s.l := by unfold latchEnable; split <;> rfl
@[simp] theorem latchEnable_sp : (s.latchEnable).sp = s.sp := by unfold latchEnable; split <;> rfl
@[simp] theorem latchEnable_pc : (s.latchEnable).pc = s.pc := by unfold latchEnable; split <;> rfl
@[simp] theorem latchEnable_halted : (s.latchEnable).halted = s.halted := by unfold latchEnable; split <;> rfl
@[simp] theorem latchEnable_stopped : (s.latchEnable).stopped = s.stopped := by unfold latchEnable; split <;> rfl
@[simp] theorem latchEnable_ifReg : (s.latchEnable).ifReg = s.ifReg := by unfold latchEnable; split <;> rfl
@[simp] theorem latchEnable_ieReg : (s.latchEnable).ieReg = s.ieReg := by unfold latchEnable; split <;> rfl
@[simp] theorem latchEnable_ram : (s.latchEnable).ram = s.ram := by unfold latchEnable; split <;> rfl
@[simp] theorem latchEnable_faulted : (s.latchEnable).faulted = s.faulted := by unfold latchEnable; split <;> rfl
@[simp] theorem latchEnable_params : (s.latchEnable).params = s.params := by unfold latchEnable; split <;> rfl
@[simp] theorem latchEnable_answers : (s.latchEnable).answers = s.answers := by unfold latchEnable; split <;> rfl
@[simp] theorem latchEnable_steps : (s.latchEnable).steps = s.steps := by unfold latchEnable; split <;> rfl
@[simp] theorem latchEnable_past : (s.latchEnable).past = s.past := by unfold latchEnable; split <;> rfl
@[simp] theorem latchEnable_inbox : (s.latchEnable).inbox = s.inbox := by unfold latchEnable; split <;> rfl
@[simp] theorem latchEnable_pcStart : (s.latchEnable).pcStart = s.pcStart := by unfold latchEnable; split <;> rfl
@[simp] theorem latchEnable_cycles : (s.latchEnable).cycles = s.cycles := by unfold latchEnable; split <;> rfl
@[simp] theorem latchEnable_trace : (s.latchEnable).trace = s.trace := by unfold latchEnable; split <;> rfl

@[simp] theorem beginStep_byteAt (x : Word) : (s.beginStep).byteAt x = s.byteAt x := rfl
@[simp] theorem beginStep_accessible (x : Word) : (s.beginStep).accessible x = s.accessible x := rfl
@[simp] theorem beginStep_pending : (s.beginStep).pending = s.pending := rfl

@[simp] theorem wake_byteAt (x : Word) : (s.wake).byteAt x = s.byteAt x := by unfold wake; split <;> rfl
@[simp] theorem wake_accessible (x : Word) : (s.wake).accessible x = s.accessible x := by unfold wake; split <;> rfl
@[simp] theorem wake_pending : (s.wake).pending = s.pending := by unfold wake; split <;> rfl
@[simp] theorem wake_readValue (x : Word) : (s.wake).readValue x = s.readValue x := by unfold wake; split <;> rfl

@[simp] theorem latchEnable_byteAt (x : Word) : (s.latchEnable).byteAt x = s.byteAt x := by unfold latchEnable; split <;> rfl
@[simp] theorem latchEnable_accessible (x : Word) : (s.latchEnable).accessible x = s.accessible x := by unfold latchEnable; split <;> rfl
@[simp] theorem latchEnable_pending : (s.latchEnable).pending = s.pending := by unfold latchEnable; split <;> rfl
@[simp] theorem latchEnable_readValue (x : Word) : (s.latchEnable).readValue x = s.readValue x := by unfold latchEnable; split <;> rfl

@[simp] theorem beginStep_cycles : s.beginStep.cycles = 0 := rfl
@[simp] theorem beginStep_trace : s.beginStep.trace = [] := rfl
@[simp] theorem beginStep_past : s.beginStep.past = s.past ++ s.trace := rfl
@[simp] theorem beginStep_steps : s.beginStep.steps = s.steps + 1 := rfl

/-! Reading a byte of memory. -/

/-- What a byte of memory reads as depends on the parameters, RAM, IF and IE, and on nothing else. -/
theorem byteAt_congr {s t : State} (hp : t.params = s.params) (hr : t.ram = s.ram) (hf : t.ifReg = s.ifReg)
    (he : t.ieReg = s.ieReg) (x : Word) : t.byteAt x = s.byteAt x := by
  simp only [byteAt, hp, hr, hf, he]

/-- Whether an address is accessible depends on the parameters only. -/
theorem accessible_congr {s t : State} (hp : t.params = s.params) (x : Word) : t.accessible x = s.accessible x := by
  simp only [accessible, hp]

end Sys2Proof.Machine.State
end

