-- ==== Sys2Proof/Laws/Ops.lean ====
section
/-! SUPPORT. One lemma per shared operation that says everything it can do: what a read, a write, a fetch, a push and a pop answer when
the address is accessible and when it is not, what a stored byte leaves, and what each keeps of the invariant. -/

namespace Sys2Proof.Machine

variable {s t u : State}

/-! The end of an instruction. -/

theorem done_next {n : Nat} (h : done n s = .next t) : t = { s with cycles := n } := by
  simpa [done, eq_comm] using h

@[simp] theorem done_ne_fault {n : Nat} {f : Fault} : done n s ≠ .fault f := by simp [done]

@[simp] theorem done_ne_refused {n : Nat} {r : Refusal} : done n s ≠ .refused r := by simp [done]

@[simp] theorem raiseUnmapped_ne_next {a : Word} {kind : Access} : raiseUnmapped a kind s ≠ .next t := by simp [raiseUnmapped]

@[simp] theorem raiseUnmapped_ne_refused {a : Word} {kind : Access} {r : Refusal} : raiseUnmapped a kind s ≠ .refused r := by
  simp [raiseUnmapped]

@[simp] theorem raiseUnimplemented_ne_next {o : Byte} : raiseUnimplemented o s ≠ .next t := by simp [raiseUnimplemented]

@[simp] theorem raiseUnimplemented_ne_refused {o : Byte} {r : Refusal} : raiseUnimplemented o s ≠ .refused r := by
  simp [raiseUnimplemented]

/-! Reads. -/

theorem withRead_ok {a : Word} {k : Byte → State → Out} (h : s.accessible a = true) :
    withRead a s k = k (s.readValue a) (s.afterRead .read a) := by simp [withRead, h]

theorem withRead_no {a : Word} {k : Byte → State → Out} (h : s.accessible a = false) :
    withRead a s k = raiseUnmapped a .read s := by simp [withRead, h]

/-- Everything a read can do: it goes on with the byte there, or it faults. -/
theorem withRead_cases (a : Word) (s : State) (k : Byte → State → Out) :
    (s.accessible a = true ∧ withRead a s k = k (s.readValue a) (s.afterRead .read a)) ∨
    (s.accessible a = false ∧ withRead a s k = raiseUnmapped a .read s) := by
  cases h : s.accessible a
  · exact .inr ⟨rfl, withRead_no h⟩
  · exact .inl ⟨rfl, withRead_ok h⟩

theorem withRead_next {a : Word} {k : Byte → State → Out} (h : withRead a s k = .next t) :
    s.accessible a = true ∧ k (s.readValue a) (s.afterRead .read a) = .next t := by
  rcases withRead_cases a s k with ⟨ha, e⟩ | ⟨_, e⟩
  · exact ⟨ha, e ▸ h⟩
  · rw [e] at h; simp at h

/-! Writes. -/

theorem withWrite_ok {a : Word} {v : Byte} {k : State → Out} (h : s.accessible a = true) :
    withWrite a v s k = k (s.afterWrite a v) := by simp [withWrite, h]

theorem withWrite_no {a : Word} {v : Byte} {k : State → Out} (h : s.accessible a = false) :
    withWrite a v s k = raiseUnmapped a .write s := by simp [withWrite, h]

/-- Everything a write can do: it goes on with the byte written, or it faults. -/
theorem withWrite_cases (a : Word) (v : Byte) (s : State) (k : State → Out) :
    (s.accessible a = true ∧ withWrite a v s k = k (s.afterWrite a v)) ∨
    (s.accessible a = false ∧ withWrite a v s k = raiseUnmapped a .write s) := by
  cases h : s.accessible a
  · exact .inr ⟨rfl, withWrite_no h⟩
  · exact .inl ⟨rfl, withWrite_ok h⟩

theorem withWrite_next {a : Word} {v : Byte} {k : State → Out} (h : withWrite a v s k = .next t) :
    s.accessible a = true ∧ k (s.afterWrite a v) = .next t := by
  rcases withWrite_cases a v s k with ⟨ha, e⟩ | ⟨_, e⟩
  · exact ⟨ha, e ▸ h⟩
  · rw [e] at h; simp at h

/-! Fetches. -/

theorem withFetch_ok {k : Byte → State → Out} (h : s.accessible s.pc = true) :
    withFetch s k = k (s.readValue s.pc) { s.afterRead .fetch s.pc with pc := s.pc + 1 } := by simp [withFetch, h]

theorem withFetch_no {k : Byte → State → Out} (h : s.accessible s.pc = false) :
    withFetch s k = raiseUnmapped s.pc .fetch s := by simp [withFetch, h]

/-- Everything a fetch can do: it goes on with the byte at PC and PC moved by one, or it faults with PC where it was. -/
theorem withFetch_cases (s : State) (k : Byte → State → Out) :
    (s.accessible s.pc = true ∧
      withFetch s k = k (s.readValue s.pc) { s.afterRead .fetch s.pc with pc := s.pc + 1 }) ∨
    (s.accessible s.pc = false ∧ withFetch s k = raiseUnmapped s.pc .fetch s) := by
  cases h : s.accessible s.pc
  · exact .inr ⟨rfl, withFetch_no h⟩
  · exact .inl ⟨rfl, withFetch_ok h⟩

theorem withFetch_next {k : Byte → State → Out} (h : withFetch s k = .next t) :
    s.accessible s.pc = true ∧ k (s.readValue s.pc) { s.afterRead .fetch s.pc with pc := s.pc + 1 } = .next t := by
  rcases withFetch_cases s k with ⟨ha, e⟩ | ⟨_, e⟩
  · exact ⟨ha, e ▸ h⟩
  · rw [e] at h; simp at h

/-! Where a byte is known, a read gives it and uses up no answer. -/

theorem readValue_of_byteAt {a : Word} {v : Byte} (h : s.byteAt a = some v) : s.readValue a = v := by
  simp [State.readValue, h]

theorem afterRead_of_byteAt {a : Word} {v : Byte} (kind : Access) (h : s.byteAt a = some v) :
    s.afterRead kind a = { s with trace := s.trace ++ [⟨kind, a, v⟩] } := by
  have hu : s.answers.used (region s.params a) = s.answers := by
    unfold State.byteAt at h
    cases hr : region s.params a <;> simp_all [Answers.used]
  simp only [State.afterRead, hu, readValue_of_byteAt h]

/-- An address whose byte is known is accessible. -/
theorem accessible_of_byteAt {a : Word} {v : Byte} (h : s.byteAt a = some v) : s.accessible a = true := by
  unfold State.byteAt at h
  unfold State.accessible
  cases hr : region s.params a <;> simp_all

/-! A collaborator's or a stub's answer (R66 to R68, R75). -/

/-- A read that the core's storage does not answer gives the next promised answer, or a draw. -/
theorem readValue_of_none {a : Word} (h : s.byteAt a = none) :
    s.readValue a = (s.answers.promised (region s.params a)).headD (s.draw a) := by simp [State.readValue, h]

@[simp] theorem Answers.promised_used (p : Answers) (r : Region) : (p.used r).promised r = (p.promised r).tail := by
  cases r <;> rfl

theorem Answers.promised_used_of_ne (p : Answers) {q r : Region} (h : q ≠ r) : (p.used r).promised q = p.promised q := by
  cases r <;> cases q <;> first | rfl | exact absurd rfl h

@[simp] theorem Answers.promised_withdrawn (p : Answers) (r : Region) : (p.withdrawn r).promised r = [] := by cases r <;> rfl

theorem Answers.promised_withdrawn_of_ne (p : Answers) {q r : Region} (h : q ≠ r) :
    (p.withdrawn r).promised q = p.promised q := by
  cases r <;> cases q <;> first | rfl | exact absurd rfl h

/-! 16-bit accesses and the stack. -/

theorem withRead16_ok {a : Word} {k : Word → State → Out} (h : s.accessible a = true) (h1 : s.accessible (a + 1) = true) :
    withRead16 a s k =
      k (wordOf ((s.afterRead .read a).readValue (a + 1)) (s.readValue a))
        ((s.afterRead .read a).afterRead .read (a + 1)) := by
  rw [withRead16, withRead_ok h, withRead_ok (by simpa using h1)]

theorem withRead16_next {a : Word} {k : Word → State → Out} (h : withRead16 a s k = .next t) :
    s.accessible a = true ∧ s.accessible (a + 1) = true ∧
      k (wordOf ((s.afterRead .read a).readValue (a + 1)) (s.readValue a))
        ((s.afterRead .read a).afterRead .read (a + 1)) = .next t := by
  obtain ⟨h0, h⟩ := withRead_next h
  obtain ⟨h1, h⟩ := withRead_next h
  exact ⟨h0, by simpa using h1, h⟩

theorem withWrite16_ok {a v : Word} {k : State → Out} (h : s.accessible a = true) (h1 : s.accessible (a + 1) = true) :
    withWrite16 a v s k = k ((s.afterWrite a (loByte v)).afterWrite (a + 1) (hiByte v)) := by
  rw [withWrite16, withWrite_ok h, withWrite_ok (by simpa using h1)]

theorem withWrite16_next {a v : Word} {k : State → Out} (h : withWrite16 a v s k = .next t) :
    s.accessible a = true ∧ s.accessible (a + 1) = true ∧
      k ((s.afterWrite a (loByte v)).afterWrite (a + 1) (hiByte v)) = .next t := by
  obtain ⟨h0, h⟩ := withWrite_next h
  obtain ⟨h1, h⟩ := withWrite_next h
  exact ⟨h0, by simpa using h1, h⟩

/-- Everything a 16-bit read can do: it goes on with both bytes, or it faults at the first byte, or at the second after the first has
been read. -/
theorem withRead16_cases (a : Word) (s : State) (k : Word → State → Out) :
    (s.accessible a = true ∧ s.accessible (a + 1) = true ∧
      withRead16 a s k = k (wordOf ((s.afterRead .read a).readValue (a + 1)) (s.readValue a))
        ((s.afterRead .read a).afterRead .read (a + 1))) ∨
    (s.accessible a = false ∧ withRead16 a s k = raiseUnmapped a .read s) ∨
    (s.accessible a = true ∧ s.accessible (a + 1) = false ∧
      withRead16 a s k = raiseUnmapped (a + 1) .read (s.afterRead .read a)) := by
  cases h : s.accessible a
  · exact .inr (.inl ⟨rfl, by rw [withRead16, withRead_no h]⟩)
  · cases h1 : s.accessible (a + 1)
    · exact .inr (.inr ⟨rfl, rfl, by rw [withRead16, withRead_ok h, withRead_no (by simpa using h1)]⟩)
    · exact .inl ⟨rfl, rfl, withRead16_ok h h1⟩

/-- Everything a 16-bit write can do: it goes on with both bytes written, or it faults at the first byte, or at the second after the
first has been written. -/
theorem withWrite16_cases (a v : Word) (s : State) (k : State → Out) :
    (s.accessible a = true ∧ s.accessible (a + 1) = true ∧
      withWrite16 a v s k = k ((s.afterWrite a (loByte v)).afterWrite (a + 1) (hiByte v))) ∨
    (s.accessible a = false ∧ withWrite16 a v s k = raiseUnmapped a .write s) ∨
    (s.accessible a = true ∧ s.accessible (a + 1) = false ∧
      withWrite16 a v s k = raiseUnmapped (a + 1) .write (s.afterWrite a (loByte v))) := by
  cases h : s.accessible a
  · exact .inr (.inl ⟨rfl, by rw [withWrite16, withWrite_no h]⟩)
  · cases h1 : s.accessible (a + 1)
    · exact .inr (.inr ⟨rfl, rfl, by rw [withWrite16, withWrite_ok h, withWrite_no (by simpa using h1)]⟩)
    · exact .inl ⟨rfl, rfl, withWrite16_ok h h1⟩

/-- A push that goes on: SP has gone down by 2 and both bytes are written (R12). -/
theorem withPush_next {v : Word} {k : State → Out} (h : withPush v s k = .next t) :
    s.accessible (s.sp - 2) = true ∧ s.accessible (s.sp - 2 + 1) = true ∧
      k (({ s with sp := s.sp - 2 }.afterWrite (s.sp - 2) (loByte v)).afterWrite (s.sp - 2 + 1) (hiByte v)) = .next t := by
  rw [withPush] at h
  obtain ⟨h0, h1, h⟩ := withWrite16_next h
  exact ⟨h0, h1, h⟩

/-- A pop that goes on: both bytes are read and SP has gone up by 2 (R12). -/
theorem withPop_next {k : Word → State → Out} (h : withPop s k = .next t) :
    s.accessible s.sp = true ∧ s.accessible (s.sp + 1) = true ∧
      k (wordOf ((s.afterRead .read s.sp).readValue (s.sp + 1)) (s.readValue s.sp))
        { (s.afterRead .read s.sp).afterRead .read (s.sp + 1) with sp := s.sp + 2 } = .next t := by
  rw [withPop] at h
  obtain ⟨h0, h1, h⟩ := withRead16_next h
  exact ⟨h0, h1, h⟩

/-! The decoder and the storage keys. -/

theorem ramKey_eq (p : Params) (a : Word) :
    ramKey p a =
      if 0xC000 ≤ a.toNat ∧ a.toNat ≤ 0xDFFF then some a.toNat
      else if 0xE000 ≤ a.toNat ∧ a.toNat ≤ 0xFDFF then some (a.toNat - 0x2000)
      else if 0xFF80 ≤ a.toNat ∧ a.toNat ≤ 0xFFFE then some a.toNat
      else none := by
  have key : ∀ r, region p a = r → ramKey p a =
      match r with
      | .workRam => some (ramAddr .workRam a)
      | .echo => some (ramAddr .echo a)
      | .highRam => some (ramAddr .highRam a)
      | _ => none := by rintro r rfl; rfl
  rw [key _ rfl]
  unfold region
  simp only
  split_ifs <;> first | rfl | omega

/-- The core's RAM holds a byte under this key, if the address names one. -/
theorem byteAt_of_ramKey {a : Word} {n : Nat} (h : ramKey s.params a = some n) : s.byteAt a = some (s.ram.read n) := by
  unfold ramKey at h
  unfold State.byteAt
  cases hr : region s.params a <;> simp_all

/-- Every RAM key is an address the core owns (R35, R36). -/
theorem owned_of_ramKey {p : Params} {a : Word} {n : Nat} (h : ramKey p a = some n) : ownedAddr n := by
  rw [ramKey_eq] at h
  unfold ownedAddr
  split at h
  · obtain rfl := Option.some.inj h; omega
  · split at h
    · obtain rfl := Option.some.inj h; omega
    · split at h
      · obtain rfl := Option.some.inj h; omega
      · cases h

theorem region_interruptFlag {p : Params} {a : Word} : region p a = .interruptFlag ↔ a = 0xFF0F := by
  constructor
  · intro h; unfold region at h; simp only at h
    repeat' split at h
    all_goals first | (apply BitVec.eq_of_toNat_eq; assumption) | cases h
  · rintro rfl; rfl

theorem region_interruptEnable {p : Params} {a : Word} : region p a = .interruptEnable ↔ a = 0xFFFF := by
  constructor
  · intro h; unfold region at h; simp only at h
    repeat' split at h
    all_goals first | (apply BitVec.eq_of_toNat_eq; assumption) | cases h
  · rintro rfl; rfl

/-! A write to one address. -/

/-- The effect of a write, by what the address names: a byte of RAM, IF, IE, or nothing the core stores; a collaborator's promises are
withdrawn. -/
theorem afterWrite_eq (s : State) (a : Word) (v : Byte) :
    s.afterWrite a v =
      { s with
        ram := match ramKey s.params a with
          | some n => s.ram.write n v
          | none => s.ram
        ifReg := if a = 0xFF0F then v else s.ifReg
        ieReg := if a = 0xFFFF then v else s.ieReg
        answers := s.answers.withdrawn (region s.params a)
        trace := s.trace ++ [⟨.write, a, v⟩] } := by
  have hf : (a = 0xFF0F) = (region s.params a = .interruptFlag) := propext region_interruptFlag.symm
  have he : (a = 0xFFFF) = (region s.params a = .interruptEnable) := propext region_interruptEnable.symm
  simp only [hf, he]
  unfold State.afterWrite ramKey
  cases region s.params a <;> rfl

/-- A byte of the core's own storage reads as what was written to it. -/
theorem byteAt_afterWrite_self (s : State) (a : Word) (v : Byte) (h : coreOwned s.params a) :
    (s.afterWrite a v).byteAt a = some v := by
  unfold coreOwned ramKey at h
  unfold State.byteAt
  simp only [State.afterWrite_params]
  unfold State.afterWrite
  cases hr : region s.params a <;> simp_all

/-- An address that is not the byte written reads as before. -/
theorem byteAt_afterWrite_other (s : State) (a x : Word) (v : Byte) (h : ¬ sameCell s.params x a) :
    (s.afterWrite a v).byteAt x = s.byteAt x := by
  by_cases ho : coreOwned s.params a
  · have hx : x ≠ a := fun e => h ⟨ho, .inl e⟩
    rw [afterWrite_eq]
    cases hk : ramKey s.params a with
    | some n =>
      have hne : ramKey s.params x ≠ some n := fun e => h ⟨ho, .inr ⟨by simp [hk], by rw [e, hk]⟩⟩
      have hF : a ≠ 0xFF0F := by rintro rfl; rw [ramKey_eq] at hk; simp at hk
      have hE : a ≠ 0xFFFF := by rintro rfl; rw [ramKey_eq] at hk; simp at hk
      simp only [if_neg hF, if_neg hE]
      cases hxk : ramKey s.params x with
      | some m =>
        have hmn : m ≠ n := fun e => hne (by rw [hxk, e])
        rw [byteAt_of_ramKey hxk, byteAt_of_ramKey (by exact hxk)]
        simp [Memory.read_write_of_ne _ _ _ _ hmn]
      | none =>
        unfold ramKey at hxk
        unfold State.byteAt
        cases hr : region s.params x <;> simp_all
    | none =>
      unfold coreOwned at ho
      simp only [hk, ne_eq, not_true_eq_false, false_or, region_interruptFlag, region_interruptEnable] at ho
      rcases ho with rfl | rfl
      · have hr : region s.params x ≠ .interruptFlag := fun e => hx (region_interruptFlag.mp e)
        unfold State.byteAt
        cases hr' : region s.params x <;> simp_all
      · have hr : region s.params x ≠ .interruptEnable := fun e => hx (region_interruptEnable.mp e)
        unfold State.byteAt
        cases hr' : region s.params x <;> simp_all
  · unfold coreOwned ramKey at ho
    unfold State.afterWrite
    cases hr : region s.params a <;> simp_all <;> rfl

/-- Everything a write leaves in memory (R64 to R70). -/
theorem stored_afterWrite (s : State) (a : Word) (v : Byte) : Stored s (s.afterWrite a v) a v :=
  ⟨byteAt_afterWrite_self s a v, fun x => byteAt_afterWrite_other s a x v⟩

/-- Consecutive addresses never name the same byte. -/
theorem not_sameCell_succ (p : Params) (a : Word) : ¬ sameCell p a (a + 1) := by
  rintro ⟨-, h | ⟨h1, h2⟩⟩
  · exact absurd h (by bv_omega)
  · rw [ramKey_eq] at h1 h2
    rw [ramKey_eq] at h2
    have ha : (a + 1).toNat = (a.toNat + 1) % 65536 := by simp [BitVec.toNat_add]
    have := a.isLt
    rw [ha] at h1 h2
    split_ifs at h1 h2 <;> first | exact absurd rfl h1 | (have := Option.some.inj h2; omega)

/-- Everything a 16-bit write leaves in memory (R61). -/
theorem stored16_afterWrite (s : State) (a v : Word) :
    Stored16 s ((s.afterWrite a (loByte v)).afterWrite (a + 1) (hiByte v)) a v := by
  refine ⟨fun h => ?_, fun h => ?_, fun x h0 h1 => ?_⟩
  · rw [byteAt_afterWrite_other _ _ _ _ (by simpa using not_sameCell_succ s.params a)]
    exact byteAt_afterWrite_self s a _ h
  · exact byteAt_afterWrite_self _ _ _ (by simpa using h)
  · rw [byteAt_afterWrite_other _ _ _ _ (by simpa using h1)]
    exact byteAt_afterWrite_other s a x _ h0

/-- A write keeps the core's RAM canonical and within what the core owns. -/
theorem ram_afterWrite (s : State) (a : Word) (v : Byte) (hw : s.ram.wf) (ho : ∀ c ∈ s.ram, ownedAddr c.1) :
    (s.afterWrite a v).ram.wf ∧ ∀ c ∈ (s.afterWrite a v).ram, ownedAddr c.1 := by
  rw [afterWrite_eq]
  cases hk : ramKey s.params a with
  | none => exact ⟨hw, ho⟩
  | some n =>
    refine ⟨Memory.wf_write _ _ _ hw, fun c hc => ?_⟩
    rcases Memory.mem_write _ _ _ c hc with h | h
    · rw [h]; exact owned_of_ramKey hk
    · exact ho c h

/-! Interrupts. -/

theorem highest_lt (p : Byte) : highest p < 5 := by
  unfold highest; repeat' split
  all_goals omega

/-- highest names the lowest set bit (R415). -/
theorem highest_eq {p : Byte} {k : Nat} (hk : k < 5) (h : p.getLsbD k = true) (hl : ∀ j < k, p.getLsbD j = false) :
    highest p = k := by
  unfold highest
  interval_cases k
  · rw [if_pos h]
  · rw [hl 0 (by decide), if_pos h]; rfl
  · rw [hl 0 (by decide), hl 1 (by decide), if_pos h]; rfl
  · rw [hl 0 (by decide), hl 1 (by decide), hl 2 (by decide), if_pos h]; rfl
  · rw [hl 0 (by decide), hl 1 (by decide), hl 2 (by decide), hl 3 (by decide)]; rfl

/-- Everything a service that happens does (R416): IME and halted are cleared, PC is pushed, and PC takes the vector. -/
theorem service_next (h : service s = .next t) :
    s.accessible (s.sp - 2) = true ∧ s.accessible (s.sp - 2 + 1) = true ∧
      ∃ v : State,
        v = ({ s with halted := false, ime := false, pcStart := s.pc, sp := s.sp - 2 }.afterWrite (s.sp - 2)
          (loByte s.pc)).afterWrite (s.sp - 2 + 1) (hiByte s.pc) ∧
        t = { v with
          pc := vectorOf (highest s.pending), ifReg := v.ifReg &&& ~~~(1#8 <<< highest s.pending), cycles := 20 } := by
  obtain ⟨h0, h1, h⟩ := withPush_next h
  exact ⟨h0, h1, _, rfl, done_next h⟩

/-- A pop and RETI's return set IME and PC and nothing else beside the pop's own effects (R370). -/
theorem returnFromInterrupt_next (h : returnFromInterrupt s = .next t) :
    s.accessible s.sp = true ∧ s.accessible (s.sp + 1) = true ∧
      t = { (s.afterRead .read s.sp).afterRead .read (s.sp + 1) with
            sp := s.sp + 2
            pc := wordOf ((s.afterRead .read s.sp).readValue (s.sp + 1)) (s.readValue s.sp)
            ime := true
            cycles := 16 } := by
  obtain ⟨h0, h1, h⟩ := withPop_next h
  exact ⟨h0, h1, done_next h⟩

end Sys2Proof.Machine
end

