-- ==== Sys2Proof/Laws/PerInstr.lean ====
section
/-! SUPPORT. One law per constructor of Instr: an instruction's encoding has the length that its first byte alone decides (R114). -/

namespace Sys2Proof.Laws.EncodedLength

/-- The encoding of a well-formed instruction has a first byte, and its length is the one that byte decides (R114). -/
def Statement (i : Instr) : Prop :=
  i.wf = true → ∃ o rest, encode i = o :: rest ∧ (encode i).length = lengthOf o

theorem ldBcN16 (nn : Word) : Statement (.ldBcN16 nn) := fun _ => ⟨_, _, rfl, rfl⟩
theorem ldBN8 (n : Byte) : Statement (.ldBN8 n) := fun _ => ⟨_, _, rfl, rfl⟩
theorem ldMemN16Sp (nn : Word) : Statement (.ldMemN16Sp nn) := fun _ => ⟨_, _, rfl, rfl⟩
theorem ldCN8 (n : Byte) : Statement (.ldCN8 n) := fun _ => ⟨_, _, rfl, rfl⟩
theorem stop (x : Byte) : Statement (.stop x) := fun _ => ⟨_, _, rfl, rfl⟩
theorem ldDeN16 (nn : Word) : Statement (.ldDeN16 nn) := fun _ => ⟨_, _, rfl, rfl⟩
theorem ldDN8 (n : Byte) : Statement (.ldDN8 n) := fun _ => ⟨_, _, rfl, rfl⟩
theorem jrE8 (e : Byte) : Statement (.jrE8 e) := fun _ => ⟨_, _, rfl, rfl⟩
theorem ldEN8 (n : Byte) : Statement (.ldEN8 n) := fun _ => ⟨_, _, rfl, rfl⟩
theorem jrNzE8 (e : Byte) : Statement (.jrNzE8 e) := fun _ => ⟨_, _, rfl, rfl⟩
theorem ldHlN16 (nn : Word) : Statement (.ldHlN16 nn) := fun _ => ⟨_, _, rfl, rfl⟩
theorem ldHN8 (n : Byte) : Statement (.ldHN8 n) := fun _ => ⟨_, _, rfl, rfl⟩
theorem jrZE8 (e : Byte) : Statement (.jrZE8 e) := fun _ => ⟨_, _, rfl, rfl⟩
theorem ldLN8 (n : Byte) : Statement (.ldLN8 n) := fun _ => ⟨_, _, rfl, rfl⟩
theorem jrNcE8 (e : Byte) : Statement (.jrNcE8 e) := fun _ => ⟨_, _, rfl, rfl⟩
theorem ldSpN16 (nn : Word) : Statement (.ldSpN16 nn) := fun _ => ⟨_, _, rfl, rfl⟩
theorem ldMemHlN8 (n : Byte) : Statement (.ldMemHlN8 n) := fun _ => ⟨_, _, rfl, rfl⟩
theorem jrCE8 (e : Byte) : Statement (.jrCE8 e) := fun _ => ⟨_, _, rfl, rfl⟩
theorem ldAN8 (n : Byte) : Statement (.ldAN8 n) := fun _ => ⟨_, _, rfl, rfl⟩
theorem jpNzN16 (nn : Word) : Statement (.jpNzN16 nn) := fun _ => ⟨_, _, rfl, rfl⟩
theorem jpN16 (nn : Word) : Statement (.jpN16 nn) := fun _ => ⟨_, _, rfl, rfl⟩
theorem callNzN16 (nn : Word) : Statement (.callNzN16 nn) := fun _ => ⟨_, _, rfl, rfl⟩
theorem addAN8 (n : Byte) : Statement (.addAN8 n) := fun _ => ⟨_, _, rfl, rfl⟩
theorem jpZN16 (nn : Word) : Statement (.jpZN16 nn) := fun _ => ⟨_, _, rfl, rfl⟩
theorem prefixCb (p : Byte) : Statement (.prefixCb p) := fun h => Bool.noConfusion h
theorem callZN16 (nn : Word) : Statement (.callZN16 nn) := fun _ => ⟨_, _, rfl, rfl⟩
theorem callN16 (nn : Word) : Statement (.callN16 nn) := fun _ => ⟨_, _, rfl, rfl⟩
theorem adcAN8 (n : Byte) : Statement (.adcAN8 n) := fun _ => ⟨_, _, rfl, rfl⟩
theorem jpNcN16 (nn : Word) : Statement (.jpNcN16 nn) := fun _ => ⟨_, _, rfl, rfl⟩
/-- Each of the eleven bytes with no table entry stands alone (R112, R114). -/
theorem lengthOf_illegal (o : Byte) (h : (Instr.illegal o).wf = true) : lengthOf o = 1 := by
  simp only [Instr.wf, illegalBytes, List.contains_cons, List.contains_nil, Bool.or_false, Bool.or_eq_true, beq_iff_eq] at h
  rcases h with h | h | h | h | h | h | h | h | h | h | h <;> subst h <;> rfl

theorem illegal (o : Byte) : Statement (.illegal o) := fun h => ⟨o, [], rfl, (lengthOf_illegal o h).symm⟩
theorem callNcN16 (nn : Word) : Statement (.callNcN16 nn) := fun _ => ⟨_, _, rfl, rfl⟩
theorem subN8 (n : Byte) : Statement (.subN8 n) := fun _ => ⟨_, _, rfl, rfl⟩
theorem jpCN16 (nn : Word) : Statement (.jpCN16 nn) := fun _ => ⟨_, _, rfl, rfl⟩
theorem callCN16 (nn : Word) : Statement (.callCN16 nn) := fun _ => ⟨_, _, rfl, rfl⟩
theorem sbcAN8 (n : Byte) : Statement (.sbcAN8 n) := fun _ => ⟨_, _, rfl, rfl⟩
theorem ldhMemN8A (n : Byte) : Statement (.ldhMemN8A n) := fun _ => ⟨_, _, rfl, rfl⟩
theorem andN8 (n : Byte) : Statement (.andN8 n) := fun _ => ⟨_, _, rfl, rfl⟩
theorem addSpE8 (e : Byte) : Statement (.addSpE8 e) := fun _ => ⟨_, _, rfl, rfl⟩
theorem ldMemN16A (nn : Word) : Statement (.ldMemN16A nn) := fun _ => ⟨_, _, rfl, rfl⟩
theorem xorN8 (n : Byte) : Statement (.xorN8 n) := fun _ => ⟨_, _, rfl, rfl⟩
theorem ldhAMemN8 (n : Byte) : Statement (.ldhAMemN8 n) := fun _ => ⟨_, _, rfl, rfl⟩
theorem orN8 (n : Byte) : Statement (.orN8 n) := fun _ => ⟨_, _, rfl, rfl⟩
theorem ldHlSpE8 (e : Byte) : Statement (.ldHlSpE8 e) := fun _ => ⟨_, _, rfl, rfl⟩
theorem ldAMemN16 (nn : Word) : Statement (.ldAMemN16 nn) := fun _ => ⟨_, _, rfl, rfl⟩
theorem cpN8 (n : Byte) : Statement (.cpN8 n) := fun _ => ⟨_, _, rfl, rfl⟩
theorem nop : Statement .nop := fun _ => ⟨_, _, rfl, rfl⟩
theorem ldMemBcA : Statement .ldMemBcA := fun _ => ⟨_, _, rfl, rfl⟩
theorem incBc : Statement .incBc := fun _ => ⟨_, _, rfl, rfl⟩
theorem incB : Statement .incB := fun _ => ⟨_, _, rfl, rfl⟩
theorem decB : Statement .decB := fun _ => ⟨_, _, rfl, rfl⟩
theorem rlca : Statement .rlca := fun _ => ⟨_, _, rfl, rfl⟩
theorem addHlBc : Statement .addHlBc := fun _ => ⟨_, _, rfl, rfl⟩
theorem ldAMemBc : Statement .ldAMemBc := fun _ => ⟨_, _, rfl, rfl⟩
theorem decBc : Statement .decBc := fun _ => ⟨_, _, rfl, rfl⟩
theorem incC : Statement .incC := fun _ => ⟨_, _, rfl, rfl⟩
theorem decC : Statement .decC := fun _ => ⟨_, _, rfl, rfl⟩
theorem rrca : Statement .rrca := fun _ => ⟨_, _, rfl, rfl⟩
theorem ldMemDeA : Statement .ldMemDeA := fun _ => ⟨_, _, rfl, rfl⟩
theorem incDe : Statement .incDe := fun _ => ⟨_, _, rfl, rfl⟩
theorem incD : Statement .incD := fun _ => ⟨_, _, rfl, rfl⟩
theorem decD : Statement .decD := fun _ => ⟨_, _, rfl, rfl⟩
theorem rla : Statement .rla := fun _ => ⟨_, _, rfl, rfl⟩
theorem addHlDe : Statement .addHlDe := fun _ => ⟨_, _, rfl, rfl⟩
theorem ldAMemDe : Statement .ldAMemDe := fun _ => ⟨_, _, rfl, rfl⟩
theorem decDe : Statement .decDe := fun _ => ⟨_, _, rfl, rfl⟩
theorem incE : Statement .incE := fun _ => ⟨_, _, rfl, rfl⟩
theorem decE : Statement .decE := fun _ => ⟨_, _, rfl, rfl⟩
theorem rra : Statement .rra := fun _ => ⟨_, _, rfl, rfl⟩
theorem ldMemHlIncA : Statement .ldMemHlIncA := fun _ => ⟨_, _, rfl, rfl⟩
theorem incHl : Statement .incHl := fun _ => ⟨_, _, rfl, rfl⟩
theorem incH : Statement .incH := fun _ => ⟨_, _, rfl, rfl⟩
theorem decH : Statement .decH := fun _ => ⟨_, _, rfl, rfl⟩
theorem daa : Statement .daa := fun _ => ⟨_, _, rfl, rfl⟩
theorem addHlHl : Statement .addHlHl := fun _ => ⟨_, _, rfl, rfl⟩
theorem ldAMemHlInc : Statement .ldAMemHlInc := fun _ => ⟨_, _, rfl, rfl⟩
theorem decHl : Statement .decHl := fun _ => ⟨_, _, rfl, rfl⟩
theorem incL : Statement .incL := fun _ => ⟨_, _, rfl, rfl⟩
theorem decL : Statement .decL := fun _ => ⟨_, _, rfl, rfl⟩
theorem cpl : Statement .cpl := fun _ => ⟨_, _, rfl, rfl⟩
theorem ldMemHlDecA : Statement .ldMemHlDecA := fun _ => ⟨_, _, rfl, rfl⟩
theorem incSp : Statement .incSp := fun _ => ⟨_, _, rfl, rfl⟩
theorem incMemHl : Statement .incMemHl := fun _ => ⟨_, _, rfl, rfl⟩
theorem decMemHl : Statement .decMemHl := fun _ => ⟨_, _, rfl, rfl⟩
theorem scf : Statement .scf := fun _ => ⟨_, _, rfl, rfl⟩
theorem addHlSp : Statement .addHlSp := fun _ => ⟨_, _, rfl, rfl⟩
theorem ldAMemHlDec : Statement .ldAMemHlDec := fun _ => ⟨_, _, rfl, rfl⟩
theorem decSp : Statement .decSp := fun _ => ⟨_, _, rfl, rfl⟩
theorem incA : Statement .incA := fun _ => ⟨_, _, rfl, rfl⟩
theorem decA : Statement .decA := fun _ => ⟨_, _, rfl, rfl⟩
theorem ccf : Statement .ccf := fun _ => ⟨_, _, rfl, rfl⟩
theorem ldBB : Statement .ldBB := fun _ => ⟨_, _, rfl, rfl⟩
theorem ldBC : Statement .ldBC := fun _ => ⟨_, _, rfl, rfl⟩
theorem ldBD : Statement .ldBD := fun _ => ⟨_, _, rfl, rfl⟩
theorem ldBE : Statement .ldBE := fun _ => ⟨_, _, rfl, rfl⟩
theorem ldBH : Statement .ldBH := fun _ => ⟨_, _, rfl, rfl⟩
theorem ldBL : Statement .ldBL := fun _ => ⟨_, _, rfl, rfl⟩
theorem ldBMemHl : Statement .ldBMemHl := fun _ => ⟨_, _, rfl, rfl⟩
theorem ldBA : Statement .ldBA := fun _ => ⟨_, _, rfl, rfl⟩
theorem ldCB : Statement .ldCB := fun _ => ⟨_, _, rfl, rfl⟩
theorem ldCC : Statement .ldCC := fun _ => ⟨_, _, rfl, rfl⟩
theorem ldCD : Statement .ldCD := fun _ => ⟨_, _, rfl, rfl⟩
theorem ldCE : Statement .ldCE := fun _ => ⟨_, _, rfl, rfl⟩
theorem ldCH : Statement .ldCH := fun _ => ⟨_, _, rfl, rfl⟩
theorem ldCL : Statement .ldCL := fun _ => ⟨_, _, rfl, rfl⟩
theorem ldCMemHl : Statement .ldCMemHl := fun _ => ⟨_, _, rfl, rfl⟩
theorem ldCA : Statement .ldCA := fun _ => ⟨_, _, rfl, rfl⟩
theorem ldDB : Statement .ldDB := fun _ => ⟨_, _, rfl, rfl⟩
theorem ldDC : Statement .ldDC := fun _ => ⟨_, _, rfl, rfl⟩
theorem ldDD : Statement .ldDD := fun _ => ⟨_, _, rfl, rfl⟩
theorem ldDE : Statement .ldDE := fun _ => ⟨_, _, rfl, rfl⟩
theorem ldDH : Statement .ldDH := fun _ => ⟨_, _, rfl, rfl⟩
theorem ldDL : Statement .ldDL := fun _ => ⟨_, _, rfl, rfl⟩
theorem ldDMemHl : Statement .ldDMemHl := fun _ => ⟨_, _, rfl, rfl⟩
theorem ldDA : Statement .ldDA := fun _ => ⟨_, _, rfl, rfl⟩
theorem ldEB : Statement .ldEB := fun _ => ⟨_, _, rfl, rfl⟩
theorem ldEC : Statement .ldEC := fun _ => ⟨_, _, rfl, rfl⟩
theorem ldED : Statement .ldED := fun _ => ⟨_, _, rfl, rfl⟩
theorem ldEE : Statement .ldEE := fun _ => ⟨_, _, rfl, rfl⟩
theorem ldEH : Statement .ldEH := fun _ => ⟨_, _, rfl, rfl⟩
theorem ldEL : Statement .ldEL := fun _ => ⟨_, _, rfl, rfl⟩
theorem ldEMemHl : Statement .ldEMemHl := fun _ => ⟨_, _, rfl, rfl⟩
theorem ldEA : Statement .ldEA := fun _ => ⟨_, _, rfl, rfl⟩
theorem ldHB : Statement .ldHB := fun _ => ⟨_, _, rfl, rfl⟩
theorem ldHC : Statement .ldHC := fun _ => ⟨_, _, rfl, rfl⟩
theorem ldHD : Statement .ldHD := fun _ => ⟨_, _, rfl, rfl⟩
theorem ldHE : Statement .ldHE := fun _ => ⟨_, _, rfl, rfl⟩
theorem ldHH : Statement .ldHH := fun _ => ⟨_, _, rfl, rfl⟩
theorem ldHL : Statement .ldHL := fun _ => ⟨_, _, rfl, rfl⟩
theorem ldHMemHl : Statement .ldHMemHl := fun _ => ⟨_, _, rfl, rfl⟩
theorem ldHA : Statement .ldHA := fun _ => ⟨_, _, rfl, rfl⟩
theorem ldLB : Statement .ldLB := fun _ => ⟨_, _, rfl, rfl⟩
theorem ldLC : Statement .ldLC := fun _ => ⟨_, _, rfl, rfl⟩
theorem ldLD : Statement .ldLD := fun _ => ⟨_, _, rfl, rfl⟩
theorem ldLE : Statement .ldLE := fun _ => ⟨_, _, rfl, rfl⟩
theorem ldLH : Statement .ldLH := fun _ => ⟨_, _, rfl, rfl⟩
theorem ldLL : Statement .ldLL := fun _ => ⟨_, _, rfl, rfl⟩
theorem ldLMemHl : Statement .ldLMemHl := fun _ => ⟨_, _, rfl, rfl⟩
theorem ldLA : Statement .ldLA := fun _ => ⟨_, _, rfl, rfl⟩
theorem ldMemHlB : Statement .ldMemHlB := fun _ => ⟨_, _, rfl, rfl⟩
theorem ldMemHlC : Statement .ldMemHlC := fun _ => ⟨_, _, rfl, rfl⟩
theorem ldMemHlD : Statement .ldMemHlD := fun _ => ⟨_, _, rfl, rfl⟩
theorem ldMemHlE : Statement .ldMemHlE := fun _ => ⟨_, _, rfl, rfl⟩
theorem ldMemHlH : Statement .ldMemHlH := fun _ => ⟨_, _, rfl, rfl⟩
theorem ldMemHlL : Statement .ldMemHlL := fun _ => ⟨_, _, rfl, rfl⟩
theorem halt : Statement .halt := fun _ => ⟨_, _, rfl, rfl⟩
theorem ldMemHlA : Statement .ldMemHlA := fun _ => ⟨_, _, rfl, rfl⟩
theorem ldAB : Statement .ldAB := fun _ => ⟨_, _, rfl, rfl⟩
theorem ldAC : Statement .ldAC := fun _ => ⟨_, _, rfl, rfl⟩
theorem ldAD : Statement .ldAD := fun _ => ⟨_, _, rfl, rfl⟩
theorem ldAE : Statement .ldAE := fun _ => ⟨_, _, rfl, rfl⟩
theorem ldAH : Statement .ldAH := fun _ => ⟨_, _, rfl, rfl⟩
theorem ldAL : Statement .ldAL := fun _ => ⟨_, _, rfl, rfl⟩
theorem ldAMemHl : Statement .ldAMemHl := fun _ => ⟨_, _, rfl, rfl⟩
theorem ldAA : Statement .ldAA := fun _ => ⟨_, _, rfl, rfl⟩
theorem addAB : Statement .addAB := fun _ => ⟨_, _, rfl, rfl⟩
theorem addAC : Statement .addAC := fun _ => ⟨_, _, rfl, rfl⟩
theorem addAD : Statement .addAD := fun _ => ⟨_, _, rfl, rfl⟩
theorem addAE : Statement .addAE := fun _ => ⟨_, _, rfl, rfl⟩
theorem addAH : Statement .addAH := fun _ => ⟨_, _, rfl, rfl⟩
theorem addAL : Statement .addAL := fun _ => ⟨_, _, rfl, rfl⟩
theorem addAMemHl : Statement .addAMemHl := fun _ => ⟨_, _, rfl, rfl⟩
theorem addAA : Statement .addAA := fun _ => ⟨_, _, rfl, rfl⟩
theorem adcAB : Statement .adcAB := fun _ => ⟨_, _, rfl, rfl⟩
theorem adcAC : Statement .adcAC := fun _ => ⟨_, _, rfl, rfl⟩
theorem adcAD : Statement .adcAD := fun _ => ⟨_, _, rfl, rfl⟩
theorem adcAE : Statement .adcAE := fun _ => ⟨_, _, rfl, rfl⟩
theorem adcAH : Statement .adcAH := fun _ => ⟨_, _, rfl, rfl⟩
theorem adcAL : Statement .adcAL := fun _ => ⟨_, _, rfl, rfl⟩
theorem adcAMemHl : Statement .adcAMemHl := fun _ => ⟨_, _, rfl, rfl⟩
theorem adcAA : Statement .adcAA := fun _ => ⟨_, _, rfl, rfl⟩
theorem subB : Statement .subB := fun _ => ⟨_, _, rfl, rfl⟩
theorem subC : Statement .subC := fun _ => ⟨_, _, rfl, rfl⟩
theorem subD : Statement .subD := fun _ => ⟨_, _, rfl, rfl⟩
theorem subE : Statement .subE := fun _ => ⟨_, _, rfl, rfl⟩
theorem subH : Statement .subH := fun _ => ⟨_, _, rfl, rfl⟩
theorem subL : Statement .subL := fun _ => ⟨_, _, rfl, rfl⟩
theorem subMemHl : Statement .subMemHl := fun _ => ⟨_, _, rfl, rfl⟩
theorem subA : Statement .subA := fun _ => ⟨_, _, rfl, rfl⟩
theorem sbcAB : Statement .sbcAB := fun _ => ⟨_, _, rfl, rfl⟩
theorem sbcAC : Statement .sbcAC := fun _ => ⟨_, _, rfl, rfl⟩
theorem sbcAD : Statement .sbcAD := fun _ => ⟨_, _, rfl, rfl⟩
theorem sbcAE : Statement .sbcAE := fun _ => ⟨_, _, rfl, rfl⟩
theorem sbcAH : Statement .sbcAH := fun _ => ⟨_, _, rfl, rfl⟩
theorem sbcAL : Statement .sbcAL := fun _ => ⟨_, _, rfl, rfl⟩
theorem sbcAMemHl : Statement .sbcAMemHl := fun _ => ⟨_, _, rfl, rfl⟩
theorem sbcAA : Statement .sbcAA := fun _ => ⟨_, _, rfl, rfl⟩
theorem andB : Statement .andB := fun _ => ⟨_, _, rfl, rfl⟩
theorem andC : Statement .andC := fun _ => ⟨_, _, rfl, rfl⟩
theorem andD : Statement .andD := fun _ => ⟨_, _, rfl, rfl⟩
theorem andE : Statement .andE := fun _ => ⟨_, _, rfl, rfl⟩
theorem andH : Statement .andH := fun _ => ⟨_, _, rfl, rfl⟩
theorem andL : Statement .andL := fun _ => ⟨_, _, rfl, rfl⟩
theorem andMemHl : Statement .andMemHl := fun _ => ⟨_, _, rfl, rfl⟩
theorem andA : Statement .andA := fun _ => ⟨_, _, rfl, rfl⟩
theorem xorB : Statement .xorB := fun _ => ⟨_, _, rfl, rfl⟩
theorem xorC : Statement .xorC := fun _ => ⟨_, _, rfl, rfl⟩
theorem xorD : Statement .xorD := fun _ => ⟨_, _, rfl, rfl⟩
theorem xorE : Statement .xorE := fun _ => ⟨_, _, rfl, rfl⟩
theorem xorH : Statement .xorH := fun _ => ⟨_, _, rfl, rfl⟩
theorem xorL : Statement .xorL := fun _ => ⟨_, _, rfl, rfl⟩
theorem xorMemHl : Statement .xorMemHl := fun _ => ⟨_, _, rfl, rfl⟩
theorem xorA : Statement .xorA := fun _ => ⟨_, _, rfl, rfl⟩
theorem orB : Statement .orB := fun _ => ⟨_, _, rfl, rfl⟩
theorem orC : Statement .orC := fun _ => ⟨_, _, rfl, rfl⟩
theorem orD : Statement .orD := fun _ => ⟨_, _, rfl, rfl⟩
theorem orE : Statement .orE := fun _ => ⟨_, _, rfl, rfl⟩
theorem orH : Statement .orH := fun _ => ⟨_, _, rfl, rfl⟩
theorem orL : Statement .orL := fun _ => ⟨_, _, rfl, rfl⟩
theorem orMemHl : Statement .orMemHl := fun _ => ⟨_, _, rfl, rfl⟩
theorem orA : Statement .orA := fun _ => ⟨_, _, rfl, rfl⟩
theorem cpB : Statement .cpB := fun _ => ⟨_, _, rfl, rfl⟩
theorem cpC : Statement .cpC := fun _ => ⟨_, _, rfl, rfl⟩
theorem cpD : Statement .cpD := fun _ => ⟨_, _, rfl, rfl⟩
theorem cpE : Statement .cpE := fun _ => ⟨_, _, rfl, rfl⟩
theorem cpH : Statement .cpH := fun _ => ⟨_, _, rfl, rfl⟩
theorem cpL : Statement .cpL := fun _ => ⟨_, _, rfl, rfl⟩
theorem cpMemHl : Statement .cpMemHl := fun _ => ⟨_, _, rfl, rfl⟩
theorem cpA : Statement .cpA := fun _ => ⟨_, _, rfl, rfl⟩
theorem retNz : Statement .retNz := fun _ => ⟨_, _, rfl, rfl⟩
theorem popBc : Statement .popBc := fun _ => ⟨_, _, rfl, rfl⟩
theorem pushBc : Statement .pushBc := fun _ => ⟨_, _, rfl, rfl⟩
theorem rst00 : Statement .rst00 := fun _ => ⟨_, _, rfl, rfl⟩
theorem retZ : Statement .retZ := fun _ => ⟨_, _, rfl, rfl⟩
theorem ret : Statement .ret := fun _ => ⟨_, _, rfl, rfl⟩
theorem rst08 : Statement .rst08 := fun _ => ⟨_, _, rfl, rfl⟩
theorem retNc : Statement .retNc := fun _ => ⟨_, _, rfl, rfl⟩
theorem popDe : Statement .popDe := fun _ => ⟨_, _, rfl, rfl⟩
theorem pushDe : Statement .pushDe := fun _ => ⟨_, _, rfl, rfl⟩
theorem rst10 : Statement .rst10 := fun _ => ⟨_, _, rfl, rfl⟩
theorem retC : Statement .retC := fun _ => ⟨_, _, rfl, rfl⟩
theorem reti : Statement .reti := fun _ => ⟨_, _, rfl, rfl⟩
theorem rst18 : Statement .rst18 := fun _ => ⟨_, _, rfl, rfl⟩
theorem popHl : Statement .popHl := fun _ => ⟨_, _, rfl, rfl⟩
theorem ldMemCA : Statement .ldMemCA := fun _ => ⟨_, _, rfl, rfl⟩
theorem pushHl : Statement .pushHl := fun _ => ⟨_, _, rfl, rfl⟩
theorem rst20 : Statement .rst20 := fun _ => ⟨_, _, rfl, rfl⟩
theorem jpHl : Statement .jpHl := fun _ => ⟨_, _, rfl, rfl⟩
theorem rst28 : Statement .rst28 := fun _ => ⟨_, _, rfl, rfl⟩
theorem popAf : Statement .popAf := fun _ => ⟨_, _, rfl, rfl⟩
theorem ldAMemC : Statement .ldAMemC := fun _ => ⟨_, _, rfl, rfl⟩
theorem di : Statement .di := fun _ => ⟨_, _, rfl, rfl⟩
theorem pushAf : Statement .pushAf := fun _ => ⟨_, _, rfl, rfl⟩
theorem rst30 : Statement .rst30 := fun _ => ⟨_, _, rfl, rfl⟩
theorem ldSpHl : Statement .ldSpHl := fun _ => ⟨_, _, rfl, rfl⟩
theorem ei : Statement .ei := fun _ => ⟨_, _, rfl, rfl⟩
theorem rst38 : Statement .rst38 := fun _ => ⟨_, _, rfl, rfl⟩
theorem rlcB : Statement .rlcB := fun _ => ⟨_, _, rfl, rfl⟩
theorem rlcC : Statement .rlcC := fun _ => ⟨_, _, rfl, rfl⟩
theorem rlcD : Statement .rlcD := fun _ => ⟨_, _, rfl, rfl⟩
theorem rlcE : Statement .rlcE := fun _ => ⟨_, _, rfl, rfl⟩
theorem rlcH : Statement .rlcH := fun _ => ⟨_, _, rfl, rfl⟩
theorem rlcL : Statement .rlcL := fun _ => ⟨_, _, rfl, rfl⟩
theorem rlcMemHl : Statement .rlcMemHl := fun _ => ⟨_, _, rfl, rfl⟩
theorem rlcA : Statement .rlcA := fun _ => ⟨_, _, rfl, rfl⟩
theorem rrcB : Statement .rrcB := fun _ => ⟨_, _, rfl, rfl⟩
theorem rrcC : Statement .rrcC := fun _ => ⟨_, _, rfl, rfl⟩
theorem rrcD : Statement .rrcD := fun _ => ⟨_, _, rfl, rfl⟩
theorem rrcE : Statement .rrcE := fun _ => ⟨_, _, rfl, rfl⟩
theorem rrcH : Statement .rrcH := fun _ => ⟨_, _, rfl, rfl⟩
theorem rrcL : Statement .rrcL := fun _ => ⟨_, _, rfl, rfl⟩
theorem rrcMemHl : Statement .rrcMemHl := fun _ => ⟨_, _, rfl, rfl⟩
theorem rrcA : Statement .rrcA := fun _ => ⟨_, _, rfl, rfl⟩
theorem rlB : Statement .rlB := fun _ => ⟨_, _, rfl, rfl⟩
theorem rlC : Statement .rlC := fun _ => ⟨_, _, rfl, rfl⟩
theorem rlD : Statement .rlD := fun _ => ⟨_, _, rfl, rfl⟩
theorem rlE : Statement .rlE := fun _ => ⟨_, _, rfl, rfl⟩
theorem rlH : Statement .rlH := fun _ => ⟨_, _, rfl, rfl⟩
theorem rlL : Statement .rlL := fun _ => ⟨_, _, rfl, rfl⟩
theorem rlMemHl : Statement .rlMemHl := fun _ => ⟨_, _, rfl, rfl⟩
theorem rlA : Statement .rlA := fun _ => ⟨_, _, rfl, rfl⟩
theorem rrB : Statement .rrB := fun _ => ⟨_, _, rfl, rfl⟩
theorem rrC : Statement .rrC := fun _ => ⟨_, _, rfl, rfl⟩
theorem rrD : Statement .rrD := fun _ => ⟨_, _, rfl, rfl⟩
theorem rrE : Statement .rrE := fun _ => ⟨_, _, rfl, rfl⟩
theorem rrH : Statement .rrH := fun _ => ⟨_, _, rfl, rfl⟩
theorem rrL : Statement .rrL := fun _ => ⟨_, _, rfl, rfl⟩
theorem rrMemHl : Statement .rrMemHl := fun _ => ⟨_, _, rfl, rfl⟩
theorem rrA : Statement .rrA := fun _ => ⟨_, _, rfl, rfl⟩
theorem slaB : Statement .slaB := fun _ => ⟨_, _, rfl, rfl⟩
theorem slaC : Statement .slaC := fun _ => ⟨_, _, rfl, rfl⟩
theorem slaD : Statement .slaD := fun _ => ⟨_, _, rfl, rfl⟩
theorem slaE : Statement .slaE := fun _ => ⟨_, _, rfl, rfl⟩
theorem slaH : Statement .slaH := fun _ => ⟨_, _, rfl, rfl⟩
theorem slaL : Statement .slaL := fun _ => ⟨_, _, rfl, rfl⟩
theorem slaMemHl : Statement .slaMemHl := fun _ => ⟨_, _, rfl, rfl⟩
theorem slaA : Statement .slaA := fun _ => ⟨_, _, rfl, rfl⟩
theorem sraB : Statement .sraB := fun _ => ⟨_, _, rfl, rfl⟩
theorem sraC : Statement .sraC := fun _ => ⟨_, _, rfl, rfl⟩
theorem sraD : Statement .sraD := fun _ => ⟨_, _, rfl, rfl⟩
theorem sraE : Statement .sraE := fun _ => ⟨_, _, rfl, rfl⟩
theorem sraH : Statement .sraH := fun _ => ⟨_, _, rfl, rfl⟩
theorem sraL : Statement .sraL := fun _ => ⟨_, _, rfl, rfl⟩
theorem sraMemHl : Statement .sraMemHl := fun _ => ⟨_, _, rfl, rfl⟩
theorem sraA : Statement .sraA := fun _ => ⟨_, _, rfl, rfl⟩
theorem swapB : Statement .swapB := fun _ => ⟨_, _, rfl, rfl⟩
theorem swapC : Statement .swapC := fun _ => ⟨_, _, rfl, rfl⟩
theorem swapD : Statement .swapD := fun _ => ⟨_, _, rfl, rfl⟩
theorem swapE : Statement .swapE := fun _ => ⟨_, _, rfl, rfl⟩
theorem swapH : Statement .swapH := fun _ => ⟨_, _, rfl, rfl⟩
theorem swapL : Statement .swapL := fun _ => ⟨_, _, rfl, rfl⟩
theorem swapMemHl : Statement .swapMemHl := fun _ => ⟨_, _, rfl, rfl⟩
theorem swapA : Statement .swapA := fun _ => ⟨_, _, rfl, rfl⟩
theorem srlB : Statement .srlB := fun _ => ⟨_, _, rfl, rfl⟩
theorem srlC : Statement .srlC := fun _ => ⟨_, _, rfl, rfl⟩
theorem srlD : Statement .srlD := fun _ => ⟨_, _, rfl, rfl⟩
theorem srlE : Statement .srlE := fun _ => ⟨_, _, rfl, rfl⟩
theorem srlH : Statement .srlH := fun _ => ⟨_, _, rfl, rfl⟩
theorem srlL : Statement .srlL := fun _ => ⟨_, _, rfl, rfl⟩
theorem srlMemHl : Statement .srlMemHl := fun _ => ⟨_, _, rfl, rfl⟩
theorem srlA : Statement .srlA := fun _ => ⟨_, _, rfl, rfl⟩
theorem bit0B : Statement .bit0B := fun _ => ⟨_, _, rfl, rfl⟩
theorem bit0C : Statement .bit0C := fun _ => ⟨_, _, rfl, rfl⟩
theorem bit0D : Statement .bit0D := fun _ => ⟨_, _, rfl, rfl⟩
theorem bit0E : Statement .bit0E := fun _ => ⟨_, _, rfl, rfl⟩
theorem bit0H : Statement .bit0H := fun _ => ⟨_, _, rfl, rfl⟩
theorem bit0L : Statement .bit0L := fun _ => ⟨_, _, rfl, rfl⟩
theorem bit0MemHl : Statement .bit0MemHl := fun _ => ⟨_, _, rfl, rfl⟩
theorem bit0A : Statement .bit0A := fun _ => ⟨_, _, rfl, rfl⟩
theorem bit1B : Statement .bit1B := fun _ => ⟨_, _, rfl, rfl⟩
theorem bit1C : Statement .bit1C := fun _ => ⟨_, _, rfl, rfl⟩
theorem bit1D : Statement .bit1D := fun _ => ⟨_, _, rfl, rfl⟩
theorem bit1E : Statement .bit1E := fun _ => ⟨_, _, rfl, rfl⟩
theorem bit1H : Statement .bit1H := fun _ => ⟨_, _, rfl, rfl⟩
theorem bit1L : Statement .bit1L := fun _ => ⟨_, _, rfl, rfl⟩
theorem bit1MemHl : Statement .bit1MemHl := fun _ => ⟨_, _, rfl, rfl⟩
theorem bit1A : Statement .bit1A := fun _ => ⟨_, _, rfl, rfl⟩
theorem bit2B : Statement .bit2B := fun _ => ⟨_, _, rfl, rfl⟩
theorem bit2C : Statement .bit2C := fun _ => ⟨_, _, rfl, rfl⟩
theorem bit2D : Statement .bit2D := fun _ => ⟨_, _, rfl, rfl⟩
theorem bit2E : Statement .bit2E := fun _ => ⟨_, _, rfl, rfl⟩
theorem bit2H : Statement .bit2H := fun _ => ⟨_, _, rfl, rfl⟩
theorem bit2L : Statement .bit2L := fun _ => ⟨_, _, rfl, rfl⟩
theorem bit2MemHl : Statement .bit2MemHl := fun _ => ⟨_, _, rfl, rfl⟩
theorem bit2A : Statement .bit2A := fun _ => ⟨_, _, rfl, rfl⟩
theorem bit3B : Statement .bit3B := fun _ => ⟨_, _, rfl, rfl⟩
theorem bit3C : Statement .bit3C := fun _ => ⟨_, _, rfl, rfl⟩
theorem bit3D : Statement .bit3D := fun _ => ⟨_, _, rfl, rfl⟩
theorem bit3E : Statement .bit3E := fun _ => ⟨_, _, rfl, rfl⟩
theorem bit3H : Statement .bit3H := fun _ => ⟨_, _, rfl, rfl⟩
theorem bit3L : Statement .bit3L := fun _ => ⟨_, _, rfl, rfl⟩
theorem bit3MemHl : Statement .bit3MemHl := fun _ => ⟨_, _, rfl, rfl⟩
theorem bit3A : Statement .bit3A := fun _ => ⟨_, _, rfl, rfl⟩
theorem bit4B : Statement .bit4B := fun _ => ⟨_, _, rfl, rfl⟩
theorem bit4C : Statement .bit4C := fun _ => ⟨_, _, rfl, rfl⟩
theorem bit4D : Statement .bit4D := fun _ => ⟨_, _, rfl, rfl⟩
theorem bit4E : Statement .bit4E := fun _ => ⟨_, _, rfl, rfl⟩
theorem bit4H : Statement .bit4H := fun _ => ⟨_, _, rfl, rfl⟩
theorem bit4L : Statement .bit4L := fun _ => ⟨_, _, rfl, rfl⟩
theorem bit4MemHl : Statement .bit4MemHl := fun _ => ⟨_, _, rfl, rfl⟩
theorem bit4A : Statement .bit4A := fun _ => ⟨_, _, rfl, rfl⟩
theorem bit5B : Statement .bit5B := fun _ => ⟨_, _, rfl, rfl⟩
theorem bit5C : Statement .bit5C := fun _ => ⟨_, _, rfl, rfl⟩
theorem bit5D : Statement .bit5D := fun _ => ⟨_, _, rfl, rfl⟩
theorem bit5E : Statement .bit5E := fun _ => ⟨_, _, rfl, rfl⟩
theorem bit5H : Statement .bit5H := fun _ => ⟨_, _, rfl, rfl⟩
theorem bit5L : Statement .bit5L := fun _ => ⟨_, _, rfl, rfl⟩
theorem bit5MemHl : Statement .bit5MemHl := fun _ => ⟨_, _, rfl, rfl⟩
theorem bit5A : Statement .bit5A := fun _ => ⟨_, _, rfl, rfl⟩
theorem bit6B : Statement .bit6B := fun _ => ⟨_, _, rfl, rfl⟩
theorem bit6C : Statement .bit6C := fun _ => ⟨_, _, rfl, rfl⟩
theorem bit6D : Statement .bit6D := fun _ => ⟨_, _, rfl, rfl⟩
theorem bit6E : Statement .bit6E := fun _ => ⟨_, _, rfl, rfl⟩
theorem bit6H : Statement .bit6H := fun _ => ⟨_, _, rfl, rfl⟩
theorem bit6L : Statement .bit6L := fun _ => ⟨_, _, rfl, rfl⟩
theorem bit6MemHl : Statement .bit6MemHl := fun _ => ⟨_, _, rfl, rfl⟩
theorem bit6A : Statement .bit6A := fun _ => ⟨_, _, rfl, rfl⟩
theorem bit7B : Statement .bit7B := fun _ => ⟨_, _, rfl, rfl⟩
theorem bit7C : Statement .bit7C := fun _ => ⟨_, _, rfl, rfl⟩
theorem bit7D : Statement .bit7D := fun _ => ⟨_, _, rfl, rfl⟩
theorem bit7E : Statement .bit7E := fun _ => ⟨_, _, rfl, rfl⟩
theorem bit7H : Statement .bit7H := fun _ => ⟨_, _, rfl, rfl⟩
theorem bit7L : Statement .bit7L := fun _ => ⟨_, _, rfl, rfl⟩
theorem bit7MemHl : Statement .bit7MemHl := fun _ => ⟨_, _, rfl, rfl⟩
theorem bit7A : Statement .bit7A := fun _ => ⟨_, _, rfl, rfl⟩
theorem res0B : Statement .res0B := fun _ => ⟨_, _, rfl, rfl⟩
theorem res0C : Statement .res0C := fun _ => ⟨_, _, rfl, rfl⟩
theorem res0D : Statement .res0D := fun _ => ⟨_, _, rfl, rfl⟩
theorem res0E : Statement .res0E := fun _ => ⟨_, _, rfl, rfl⟩
theorem res0H : Statement .res0H := fun _ => ⟨_, _, rfl, rfl⟩
theorem res0L : Statement .res0L := fun _ => ⟨_, _, rfl, rfl⟩
theorem res0MemHl : Statement .res0MemHl := fun _ => ⟨_, _, rfl, rfl⟩
theorem res0A : Statement .res0A := fun _ => ⟨_, _, rfl, rfl⟩
theorem res1B : Statement .res1B := fun _ => ⟨_, _, rfl, rfl⟩
theorem res1C : Statement .res1C := fun _ => ⟨_, _, rfl, rfl⟩
theorem res1D : Statement .res1D := fun _ => ⟨_, _, rfl, rfl⟩
theorem res1E : Statement .res1E := fun _ => ⟨_, _, rfl, rfl⟩
theorem res1H : Statement .res1H := fun _ => ⟨_, _, rfl, rfl⟩
theorem res1L : Statement .res1L := fun _ => ⟨_, _, rfl, rfl⟩
theorem res1MemHl : Statement .res1MemHl := fun _ => ⟨_, _, rfl, rfl⟩
theorem res1A : Statement .res1A := fun _ => ⟨_, _, rfl, rfl⟩
theorem res2B : Statement .res2B := fun _ => ⟨_, _, rfl, rfl⟩
theorem res2C : Statement .res2C := fun _ => ⟨_, _, rfl, rfl⟩
theorem res2D : Statement .res2D := fun _ => ⟨_, _, rfl, rfl⟩
theorem res2E : Statement .res2E := fun _ => ⟨_, _, rfl, rfl⟩
theorem res2H : Statement .res2H := fun _ => ⟨_, _, rfl, rfl⟩
theorem res2L : Statement .res2L := fun _ => ⟨_, _, rfl, rfl⟩
theorem res2MemHl : Statement .res2MemHl := fun _ => ⟨_, _, rfl, rfl⟩
theorem res2A : Statement .res2A := fun _ => ⟨_, _, rfl, rfl⟩
theorem res3B : Statement .res3B := fun _ => ⟨_, _, rfl, rfl⟩
theorem res3C : Statement .res3C := fun _ => ⟨_, _, rfl, rfl⟩
theorem res3D : Statement .res3D := fun _ => ⟨_, _, rfl, rfl⟩
theorem res3E : Statement .res3E := fun _ => ⟨_, _, rfl, rfl⟩
theorem res3H : Statement .res3H := fun _ => ⟨_, _, rfl, rfl⟩
theorem res3L : Statement .res3L := fun _ => ⟨_, _, rfl, rfl⟩
theorem res3MemHl : Statement .res3MemHl := fun _ => ⟨_, _, rfl, rfl⟩
theorem res3A : Statement .res3A := fun _ => ⟨_, _, rfl, rfl⟩
theorem res4B : Statement .res4B := fun _ => ⟨_, _, rfl, rfl⟩
theorem res4C : Statement .res4C := fun _ => ⟨_, _, rfl, rfl⟩
theorem res4D : Statement .res4D := fun _ => ⟨_, _, rfl, rfl⟩
theorem res4E : Statement .res4E := fun _ => ⟨_, _, rfl, rfl⟩
theorem res4H : Statement .res4H := fun _ => ⟨_, _, rfl, rfl⟩
theorem res4L : Statement .res4L := fun _ => ⟨_, _, rfl, rfl⟩
theorem res4MemHl : Statement .res4MemHl := fun _ => ⟨_, _, rfl, rfl⟩
theorem res4A : Statement .res4A := fun _ => ⟨_, _, rfl, rfl⟩
theorem res5B : Statement .res5B := fun _ => ⟨_, _, rfl, rfl⟩
theorem res5C : Statement .res5C := fun _ => ⟨_, _, rfl, rfl⟩
theorem res5D : Statement .res5D := fun _ => ⟨_, _, rfl, rfl⟩
theorem res5E : Statement .res5E := fun _ => ⟨_, _, rfl, rfl⟩
theorem res5H : Statement .res5H := fun _ => ⟨_, _, rfl, rfl⟩
theorem res5L : Statement .res5L := fun _ => ⟨_, _, rfl, rfl⟩
theorem res5MemHl : Statement .res5MemHl := fun _ => ⟨_, _, rfl, rfl⟩
theorem res5A : Statement .res5A := fun _ => ⟨_, _, rfl, rfl⟩
theorem res6B : Statement .res6B := fun _ => ⟨_, _, rfl, rfl⟩
theorem res6C : Statement .res6C := fun _ => ⟨_, _, rfl, rfl⟩
theorem res6D : Statement .res6D := fun _ => ⟨_, _, rfl, rfl⟩
theorem res6E : Statement .res6E := fun _ => ⟨_, _, rfl, rfl⟩
theorem res6H : Statement .res6H := fun _ => ⟨_, _, rfl, rfl⟩
theorem res6L : Statement .res6L := fun _ => ⟨_, _, rfl, rfl⟩
theorem res6MemHl : Statement .res6MemHl := fun _ => ⟨_, _, rfl, rfl⟩
theorem res6A : Statement .res6A := fun _ => ⟨_, _, rfl, rfl⟩
theorem res7B : Statement .res7B := fun _ => ⟨_, _, rfl, rfl⟩
theorem res7C : Statement .res7C := fun _ => ⟨_, _, rfl, rfl⟩
theorem res7D : Statement .res7D := fun _ => ⟨_, _, rfl, rfl⟩
theorem res7E : Statement .res7E := fun _ => ⟨_, _, rfl, rfl⟩
theorem res7H : Statement .res7H := fun _ => ⟨_, _, rfl, rfl⟩
theorem res7L : Statement .res7L := fun _ => ⟨_, _, rfl, rfl⟩
theorem res7MemHl : Statement .res7MemHl := fun _ => ⟨_, _, rfl, rfl⟩
theorem res7A : Statement .res7A := fun _ => ⟨_, _, rfl, rfl⟩
theorem set0B : Statement .set0B := fun _ => ⟨_, _, rfl, rfl⟩
theorem set0C : Statement .set0C := fun _ => ⟨_, _, rfl, rfl⟩
theorem set0D : Statement .set0D := fun _ => ⟨_, _, rfl, rfl⟩
theorem set0E : Statement .set0E := fun _ => ⟨_, _, rfl, rfl⟩
theorem set0H : Statement .set0H := fun _ => ⟨_, _, rfl, rfl⟩
theorem set0L : Statement .set0L := fun _ => ⟨_, _, rfl, rfl⟩
theorem set0MemHl : Statement .set0MemHl := fun _ => ⟨_, _, rfl, rfl⟩
theorem set0A : Statement .set0A := fun _ => ⟨_, _, rfl, rfl⟩
theorem set1B : Statement .set1B := fun _ => ⟨_, _, rfl, rfl⟩
theorem set1C : Statement .set1C := fun _ => ⟨_, _, rfl, rfl⟩
theorem set1D : Statement .set1D := fun _ => ⟨_, _, rfl, rfl⟩
theorem set1E : Statement .set1E := fun _ => ⟨_, _, rfl, rfl⟩
theorem set1H : Statement .set1H := fun _ => ⟨_, _, rfl, rfl⟩
theorem set1L : Statement .set1L := fun _ => ⟨_, _, rfl, rfl⟩
theorem set1MemHl : Statement .set1MemHl := fun _ => ⟨_, _, rfl, rfl⟩
theorem set1A : Statement .set1A := fun _ => ⟨_, _, rfl, rfl⟩
theorem set2B : Statement .set2B := fun _ => ⟨_, _, rfl, rfl⟩
theorem set2C : Statement .set2C := fun _ => ⟨_, _, rfl, rfl⟩
theorem set2D : Statement .set2D := fun _ => ⟨_, _, rfl, rfl⟩
theorem set2E : Statement .set2E := fun _ => ⟨_, _, rfl, rfl⟩
theorem set2H : Statement .set2H := fun _ => ⟨_, _, rfl, rfl⟩
theorem set2L : Statement .set2L := fun _ => ⟨_, _, rfl, rfl⟩
theorem set2MemHl : Statement .set2MemHl := fun _ => ⟨_, _, rfl, rfl⟩
theorem set2A : Statement .set2A := fun _ => ⟨_, _, rfl, rfl⟩
theorem set3B : Statement .set3B := fun _ => ⟨_, _, rfl, rfl⟩
theorem set3C : Statement .set3C := fun _ => ⟨_, _, rfl, rfl⟩
theorem set3D : Statement .set3D := fun _ => ⟨_, _, rfl, rfl⟩
theorem set3E : Statement .set3E := fun _ => ⟨_, _, rfl, rfl⟩
theorem set3H : Statement .set3H := fun _ => ⟨_, _, rfl, rfl⟩
theorem set3L : Statement .set3L := fun _ => ⟨_, _, rfl, rfl⟩
theorem set3MemHl : Statement .set3MemHl := fun _ => ⟨_, _, rfl, rfl⟩
theorem set3A : Statement .set3A := fun _ => ⟨_, _, rfl, rfl⟩
theorem set4B : Statement .set4B := fun _ => ⟨_, _, rfl, rfl⟩
theorem set4C : Statement .set4C := fun _ => ⟨_, _, rfl, rfl⟩
theorem set4D : Statement .set4D := fun _ => ⟨_, _, rfl, rfl⟩
theorem set4E : Statement .set4E := fun _ => ⟨_, _, rfl, rfl⟩
theorem set4H : Statement .set4H := fun _ => ⟨_, _, rfl, rfl⟩
theorem set4L : Statement .set4L := fun _ => ⟨_, _, rfl, rfl⟩
theorem set4MemHl : Statement .set4MemHl := fun _ => ⟨_, _, rfl, rfl⟩
theorem set4A : Statement .set4A := fun _ => ⟨_, _, rfl, rfl⟩
theorem set5B : Statement .set5B := fun _ => ⟨_, _, rfl, rfl⟩
theorem set5C : Statement .set5C := fun _ => ⟨_, _, rfl, rfl⟩
theorem set5D : Statement .set5D := fun _ => ⟨_, _, rfl, rfl⟩
theorem set5E : Statement .set5E := fun _ => ⟨_, _, rfl, rfl⟩
theorem set5H : Statement .set5H := fun _ => ⟨_, _, rfl, rfl⟩
theorem set5L : Statement .set5L := fun _ => ⟨_, _, rfl, rfl⟩
theorem set5MemHl : Statement .set5MemHl := fun _ => ⟨_, _, rfl, rfl⟩
theorem set5A : Statement .set5A := fun _ => ⟨_, _, rfl, rfl⟩
theorem set6B : Statement .set6B := fun _ => ⟨_, _, rfl, rfl⟩
theorem set6C : Statement .set6C := fun _ => ⟨_, _, rfl, rfl⟩
theorem set6D : Statement .set6D := fun _ => ⟨_, _, rfl, rfl⟩
theorem set6E : Statement .set6E := fun _ => ⟨_, _, rfl, rfl⟩
theorem set6H : Statement .set6H := fun _ => ⟨_, _, rfl, rfl⟩
theorem set6L : Statement .set6L := fun _ => ⟨_, _, rfl, rfl⟩
theorem set6MemHl : Statement .set6MemHl := fun _ => ⟨_, _, rfl, rfl⟩
theorem set6A : Statement .set6A := fun _ => ⟨_, _, rfl, rfl⟩
theorem set7B : Statement .set7B := fun _ => ⟨_, _, rfl, rfl⟩
theorem set7C : Statement .set7C := fun _ => ⟨_, _, rfl, rfl⟩
theorem set7D : Statement .set7D := fun _ => ⟨_, _, rfl, rfl⟩
theorem set7E : Statement .set7E := fun _ => ⟨_, _, rfl, rfl⟩
theorem set7H : Statement .set7H := fun _ => ⟨_, _, rfl, rfl⟩
theorem set7L : Statement .set7L := fun _ => ⟨_, _, rfl, rfl⟩
theorem set7MemHl : Statement .set7MemHl := fun _ => ⟨_, _, rfl, rfl⟩
theorem set7A : Statement .set7A := fun _ => ⟨_, _, rfl, rfl⟩

end Sys2Proof.Laws.EncodedLength
end

