-- ==== Sys2Proof/Laws/Step.lean ====
section
/-! SUPPORT. The laws of a step's parts: the host's moves, the wake from halt, a pending enable, a fetch of a known byte, the order of
the phases, and that placing a program keeps the memory's form. -/

namespace Sys2Proof.Machine

variable {s : State}

/-- Where no fault has happened, a step is its phases after the host's moves. -/
theorem step_of_running (h : s.faulted = none) : step s = runPhases exec s.takeInbox.beginStep := by
  unfold step; rw [h]

theorem takeInbox_of_nil (h : s.inbox = []) : s.takeInbox = s := by
  unfold State.takeInbox; rw [h]

theorem takeInbox_of_cons {moves : List HostMove} {rest : List (List HostMove)} (h : s.inbox = moves :: rest) :
    s.takeInbox = moves.foldl HostMove.apply { s with inbox := rest } := by
  unfold State.takeInbox; rw [h]

theorem wake_of_none (h : s.pending = 0) : s.wake = s := by
  unfold State.wake; rw [if_neg (by simpa using h)]

theorem wake_of_pending (h : s.pending ≠ 0) : s.wake = { s with halted := false } := by
  unfold State.wake; rw [if_pos h]

theorem latchEnable_of_pending (h : s.eiPending = true) : s.latchEnable = { s with ime := true, eiPending := false } := by
  unfold State.latchEnable; rw [if_pos h]

theorem latchEnable_of_none (h : s.eiPending = false) : s.latchEnable = s := by
  unfold State.latchEnable; rw [if_neg (by simp [h])]

/-- No enable waits once phase 3 is over (R144). -/
@[simp] theorem latchEnable_eiPending (s : State) : s.latchEnable.eiPending = false := by
  cases h : s.eiPending
  · rw [latchEnable_of_none h, h]
  · rw [latchEnable_of_pending h]

/-! The phases (R141 to R145). -/

theorem runPhases_stopped (run : Instr → State → Out) (h : s.stopped = true) : runPhases run s = done 4 s := by
  rw [runPhases, if_pos h]

theorem runPhases_service (run : Instr → State → Out) (h : s.stopped = false) (hi : s.takesInterrupt = true) :
    runPhases run s = service s := by
  rw [runPhases, if_neg (by simp [h]), if_pos hi]

theorem runPhases_idle (run : Instr → State → Out) (h : s.stopped = false) (hi : s.takesInterrupt = false)
    (hh : s.wake.halted = true) : runPhases run s = done 4 s.wake := by
  rw [runPhases, if_neg (by simp [h]), if_neg (by simp [hi]), if_pos hh]

theorem runPhases_fetch (run : Instr → State → Out) (h : s.stopped = false) (hi : s.takesInterrupt = false)
    (hh : s.wake.halted = false) : runPhases run s = fetchExecute run s.wake.latchEnable := by
  rw [runPhases, if_neg (by simp [h]), if_neg (by simp [hi]), if_neg (by simp [hh])]

/-- A fetch where the byte at PC is known. -/
theorem withFetch_of_byteAt {v : Byte} {k : Byte → State → Out} (h : s.byteAt s.pc = some v) :
    withFetch s k = k v { s with pc := s.pc + 1, trace := s.trace ++ [⟨.fetch, s.pc, v⟩] } := by
  rw [withFetch_ok (accessible_of_byteAt h), readValue_of_byteAt h, afterRead_of_byteAt _ h]

/-! The memory keeps its form. -/

theorem wf_placeByte (s : State) (a : Word) (v : Byte) (h : s.ram.wf) : (s.placeByte a v).ram.wf := by
  unfold State.placeByte
  split <;> first | exact Memory.wf_write _ _ _ h | exact h

theorem wf_placeBytes (s : State) (a : Word) (vs : List Byte) (h : s.ram.wf) : (s.placeBytes a vs).ram.wf := by
  induction vs generalizing s a with
  | nil => exact h
  | cons v vs ih => exact ih _ _ (wf_placeByte s a v h)

/-- Placing an instruction to fetch keeps the memory's form. -/
theorem wf_withFetchWord (s : State) (nbits w : Nat) (h : s.ram.wf) : (s.withFetchWord nbits w).ram.wf :=
  wf_placeBytes _ _ _ h

/-- The memory after reset is in its canonical form. -/
theorem wf_reset : State.reset.ram.wf := Memory.wf_load _ _ _ (Memory.wf_load _ _ _ Memory.wf_nil)

end Sys2Proof.Machine
end

