-- ==== Sys2Proof/Tests/Slice0.lean ====
section
/-! SUPPORT. The model's own tests: ill-formed terms, a word for every constructor written out from the encodings of
spec/30_encoding.md, one-step vectors of spec/95_test_vectors.md (each named by its id there), and, for every statement with
hypotheses, concrete states and operands that meet them. -/

namespace Sys2Proof.Tests

open Sys2Proof Sys2Proof.Machine Sys2Proof.Claims

/-! Ill-formed terms. -/

theorem test_illegal_byte_with_an_entry_is_ill_formed : (Instr.illegal 0x00).wf = false := by decide
theorem test_illegal_prefix_byte_is_ill_formed : (Instr.illegal 0xCB).wf = false := by decide
theorem test_prefix_alone_is_ill_formed : (Instr.prefixCb 0x00).wf = false := by decide
theorem test_no_bytes_are_refused : decode [] = .error .noBytes := by decide
theorem test_truncated_bytes_are_refused :
    decode [0x01, 0x34] = .error (.truncated 0x01) ∧ decode [0xCB] = .error (.truncated 0xCB) := by decide

/-! Decoding: the words of every constructor, form by form, with each field's bits as spec/30_encoding.md gives them (R101 to R111). -/

/-- The r8 field's bits (R103). -/
def r8 : Reg8 → Byte
  | .b => 0b000
  | .c => 0b001
  | .d => 0b010
  | .e => 0b011
  | .h => 0b100
  | .l => 0b101
  | .a => 0b111

/-- The rp and rp2 fields' bits (R104, R105). -/
def rp : Pair → Byte
  | .bc => 0b00
  | .de => 0b01
  | .hl => 0b10
  | .sp => 0b11

def rp2 : StackPair → Byte
  | .bc => 0b00
  | .de => 0b01
  | .hl => 0b10
  | .af => 0b11

/-- The cc field's bits (R107). -/
def cc : Cond → Byte
  | .nz => 0b00
  | .z => 0b01
  | .nc => 0b10
  | .c => 0b11

/-- The alu field's bits (R110). -/
def alu : AluOp → Byte
  | .add => 0b000
  | .adc => 0b001
  | .sub => 0b010
  | .sbc => 0b011
  | .and => 0b100
  | .xor => 0b101
  | .or => 0b110
  | .cp => 0b111

/-- The y field's bits of an extended rotate or shift (R111). -/
def rot : ShiftOp → Byte
  | .rlc => 0b000
  | .rrc => 0b001
  | .rl => 0b010
  | .rr => 0b011
  | .sla => 0b100
  | .sra => 0b101
  | .swap => 0b110
  | .srl => 0b111

/-- A byte with the fields x, y and z (R101). -/
def xyz (x y z : Byte) : Byte := x <<< 6 ||| y <<< 3 ||| z

/-- The byte decodes to this instruction, and so does it with any bytes after it. -/
def Reads (bytes : List Byte) (i : Instr) : Prop := ∀ rest, decode (bytes ++ rest) = .ok (i, rest)

theorem test_decode_alu_reg (op : AluOp) (r : Reg8) : Reads [xyz 0b10 (alu op) (r8 r)] (Forms.aluReg op r) := by
  cases op <;> cases r <;> exact fun _ => rfl
theorem test_decode_alu_mem_and_imm (op : AluOp) (n : Byte) :
    Reads [xyz 0b10 (alu op) 0b110] (Forms.aluMem op) ∧ Reads [xyz 0b11 (alu op) 0b110, n] (Forms.aluImm op n) := by
  cases op <;> exact ⟨fun _ => rfl, fun _ => rfl⟩
theorem test_decode_inc_dec_reg (r : Reg8) :
    Reads [xyz 0b00 (r8 r) 0b100] (Forms.incReg r) ∧ Reads [xyz 0b00 (r8 r) 0b101] (Forms.decReg r) := by
  cases r <;> exact ⟨fun _ => rfl, fun _ => rfl⟩
theorem test_decode_inc_dec_mem : Reads [0b00110100] .incMemHl ∧ Reads [0b00110101] .decMemHl := ⟨fun _ => rfl, fun _ => rfl⟩
theorem test_decode_pairs (p : Pair) (lo hi : Byte) :
    Reads [rp p <<< 4 ||| 0b0001, lo, hi] (Forms.loadPairImm p (wordOf hi lo)) ∧
    Reads [rp p <<< 4 ||| 0b0011] (Forms.incPair p) ∧ Reads [rp p <<< 4 ||| 0b1011] (Forms.decPair p) ∧
    Reads [rp p <<< 4 ||| 0b1001] (Forms.addHl p) := by
  cases p <;> exact ⟨fun _ => rfl, fun _ => rfl, fun _ => rfl, fun _ => rfl⟩
theorem test_decode_stack_pairs (p : StackPair) :
    Reads [0b11000101 ||| rp2 p <<< 4] (Forms.pushPair p) ∧ Reads [0b11000001 ||| rp2 p <<< 4] (Forms.popPair p) := by
  cases p <;> exact ⟨fun _ => rfl, fun _ => rfl⟩
theorem test_decode_accumulator_flags :
    Reads [0b00000111] .rlca ∧ Reads [0b00001111] .rrca ∧ Reads [0b00010111] .rla ∧ Reads [0b00011111] .rra ∧
    Reads [0b00100111] .daa ∧ Reads [0b00101111] .cpl ∧ Reads [0b00110111] .scf ∧ Reads [0b00111111] .ccf :=
  ⟨fun _ => rfl, fun _ => rfl, fun _ => rfl, fun _ => rfl, fun _ => rfl, fun _ => rfl, fun _ => rfl, fun _ => rfl⟩
theorem test_decode_load_reg (dst src : Reg8) : Reads [xyz 0b01 (r8 dst) (r8 src)] (Forms.loadReg dst src) := by
  cases dst <;> cases src <;> exact fun _ => rfl
theorem test_decode_load_imm_and_mem (r : Reg8) (n : Byte) :
    Reads [xyz 0b00 (r8 r) 0b110, n] (Forms.loadImm r n) ∧ Reads [xyz 0b01 (r8 r) 0b110] (Forms.loadMem r) ∧
    Reads [xyz 0b01 0b110 (r8 r)] (Forms.storeMem r) ∧ Reads [0b00110110, n] (.ldMemHlN8 n) := by
  cases r <;> exact ⟨fun _ => rfl, fun _ => rfl, fun _ => rfl, fun _ => rfl⟩
theorem test_decode_accumulator_loads (n lo hi : Byte) :
    Reads [0b00001010] .ldAMemBc ∧ Reads [0b00011010] .ldAMemDe ∧ Reads [0b00101010] .ldAMemHlInc ∧
    Reads [0b00111010] .ldAMemHlDec ∧ Reads [0b11111010, lo, hi] (.ldAMemN16 (wordOf hi lo)) ∧
    Reads [0b11110000, n] (.ldhAMemN8 n) ∧ Reads [0b11110010] .ldAMemC :=
  ⟨fun _ => rfl, fun _ => rfl, fun _ => rfl, fun _ => rfl, fun _ => rfl, fun _ => rfl, fun _ => rfl⟩
theorem test_decode_accumulator_stores (n lo hi : Byte) :
    Reads [0b00000010] .ldMemBcA ∧ Reads [0b00010010] .ldMemDeA ∧ Reads [0b00100010] .ldMemHlIncA ∧
    Reads [0b00110010] .ldMemHlDecA ∧ Reads [0b11101010, lo, hi] (.ldMemN16A (wordOf hi lo)) ∧
    Reads [0b11100000, n] (.ldhMemN8A n) ∧ Reads [0b11100010] .ldMemCA :=
  ⟨fun _ => rfl, fun _ => rfl, fun _ => rfl, fun _ => rfl, fun _ => rfl, fun _ => rfl, fun _ => rfl⟩
theorem test_decode_stack_pointer (e lo hi : Byte) :
    Reads [0b00001000, lo, hi] (.ldMemN16Sp (wordOf hi lo)) ∧ Reads [0b11111001] .ldSpHl ∧
    Reads [0b11101000, e] (.addSpE8 e) ∧ Reads [0b11111000, e] (.ldHlSpE8 e) :=
  ⟨fun _ => rfl, fun _ => rfl, fun _ => rfl, fun _ => rfl⟩
theorem test_decode_jumps (e lo hi : Byte) :
    Reads [0b11000011, lo, hi] (.jpN16 (wordOf hi lo)) ∧ Reads [0b11101001] .jpHl ∧ Reads [0b00011000, e] (.jrE8 e) ∧
    Reads [0b11001101, lo, hi] (.callN16 (wordOf hi lo)) ∧ Reads [0b11001001] .ret ∧ Reads [0b11011001] .reti :=
  ⟨fun _ => rfl, fun _ => rfl, fun _ => rfl, fun _ => rfl, fun _ => rfl, fun _ => rfl⟩
theorem test_decode_conditions (k : Cond) (e lo hi : Byte) :
    Reads [0b11000010 ||| cc k <<< 3, lo, hi] (Forms.jumpAbsIf k (wordOf hi lo)) ∧
    Reads [0b00100000 ||| cc k <<< 3, e] (Forms.jumpRelIf k e) ∧
    Reads [0b11000100 ||| cc k <<< 3, lo, hi] (Forms.callAbsIf k (wordOf hi lo)) ∧
    Reads [0b11000000 ||| cc k <<< 3] (Forms.returnPopIf k) := by
  cases k <;> exact ⟨fun _ => rfl, fun _ => rfl, fun _ => rfl, fun _ => rfl⟩
theorem test_decode_restarts (t : Fin 8) : Reads [0b11000111 ||| BitVec.ofNat 8 t.val <<< 3] (Forms.restart t) := by
  fin_cases t <;> exact fun _ => rfl
theorem test_decode_system (x : Byte) :
    Reads [0b00000000] .nop ∧ Reads [0b01110110] .halt ∧ Reads [0b00010000, x] (.stop x) ∧ Reads [0b11110011] .di ∧
    Reads [0b11111011] .ei :=
  ⟨fun _ => rfl, fun _ => rfl, fun _ => rfl, fun _ => rfl, fun _ => rfl⟩
theorem test_decode_illegal :
    Reads [0xD3] (.illegal 0xD3) ∧ Reads [0xDB] (.illegal 0xDB) ∧ Reads [0xDD] (.illegal 0xDD) ∧ Reads [0xE3] (.illegal 0xE3) ∧
    Reads [0xE4] (.illegal 0xE4) ∧ Reads [0xEB] (.illegal 0xEB) ∧ Reads [0xEC] (.illegal 0xEC) ∧ Reads [0xED] (.illegal 0xED) ∧
    Reads [0xF4] (.illegal 0xF4) ∧ Reads [0xFC] (.illegal 0xFC) ∧ Reads [0xFD] (.illegal 0xFD) :=
  ⟨fun _ => rfl, fun _ => rfl, fun _ => rfl, fun _ => rfl, fun _ => rfl, fun _ => rfl, fun _ => rfl, fun _ => rfl, fun _ => rfl,
    fun _ => rfl, fun _ => rfl⟩
theorem test_decode_shifts (op : ShiftOp) (r : Reg8) :
    Reads [0b11001011, xyz 0b00 (rot op) (r8 r)] (Forms.shiftReg op r) ∧
    Reads [0b11001011, xyz 0b00 (rot op) 0b110] (Forms.shiftMem op) := by
  cases op <;> cases r <;> exact ⟨fun _ => rfl, fun _ => rfl⟩
theorem test_decode_bit_operations (i : Fin 8) (r : Reg8) :
    Reads [0b11001011, xyz 0b01 (BitVec.ofNat 8 i.val) (r8 r)] (Forms.testBitReg i r) ∧
    Reads [0b11001011, xyz 0b10 (BitVec.ofNat 8 i.val) (r8 r)] (Forms.clearBitReg i r) ∧
    Reads [0b11001011, xyz 0b11 (BitVec.ofNat 8 i.val) (r8 r)] (Forms.raiseBitReg i r) := by
  revert i; cases r <;> intro i <;> fin_cases i <;> exact ⟨fun _ => rfl, fun _ => rfl, fun _ => rfl⟩
theorem test_decode_bit_operations_at_hl (i : Fin 8) :
    Reads [0b11001011, xyz 0b01 (BitVec.ofNat 8 i.val) 0b110] (Forms.testBitMem i) ∧
    Reads [0b11001011, xyz 0b10 (BitVec.ofNat 8 i.val) 0b110] (Forms.clearBitMem i) ∧
    Reads [0b11001011, xyz 0b11 (BitVec.ofNat 8 i.val) 0b110] (Forms.raiseBitMem i) := by
  fin_cases i <;> exact ⟨fun _ => rfl, fun _ => rfl, fun _ => rfl⟩

/-- Words as the opcode table numbers them: an extended row's prefix is in bits 15:8. -/
theorem test_table_words :
    decodeTableWord 8 0x3C = some .incA ∧ decodeTableWord 16 0xCB22 = some .slaD ∧
    decodeTableWord 24 0x123401 = some (.ldBcN16 0x1234) ∧ decodeTableWord 8 0xD3 = some (.illegal 0xD3) := by decide

/-! One-step vectors. -/

/-- The base state S0 of spec/95_test_vectors.md, with these code bytes at 0xC000. -/
def S0 (code : List Byte) : State :=
  { State.reset with pc := 0xC000, sp := 0xDFF0, f := 0x00, ram := Memory.load [] 0xC000 code }

/-- The next step happens, and the state after it is as the check says. -/
def runsTo (s : State) (check : State → Bool) : Bool :=
  match step s with
  | .next t => check t
  | .fault _ => false
  | .refused _ => false

/-- The next step faults with this record in the state it leaves, and that state is as the check says. -/
def faultsWith (s : State) (r : FaultRecord) (check : State → Bool) : Bool :=
  match step s with
  | .next _ => false
  | .fault (.unimplementedOpcode o pc left) => decide (r = .unimplementedOpcode o pc ∧ left.faulted = some r) && check left
  | .fault (.unmappedAddress a k pc left) => decide (r = .unmappedAddress a k pc ∧ left.faulted = some r) && check left
  | .fault (.noFurtherStep _) => false
  | .refused _ => false

/-- V3 (R177): ADD A,A. -/
theorem test_V3_add_a_a :
    runsTo { S0 [0x87] with a := 0x80, f := 0x00 } fun t =>
      t.a = 0x00 ∧ t.f = 0x90 ∧ t.pc = 0xC001 ∧ t.cycles = 4 := by decide

/-- V2 (R179): ADD A,0x01. -/
theorem test_V2_add_a_0x01 :
    runsTo { S0 [0xC6, 0x01] with a := 0x0F, f := 0x00 } fun t =>
      t.a = 0x10 ∧ t.f = 0x20 ∧ t.pc = 0xC002 ∧ t.cycles = 8 := by decide

/-- V5 (R178): ADD A,(HL). -/
theorem test_V5_add_a_hl :
    runsTo { (S0 [0x86]).placeByte 0xC100 0x34 with a := 0x12, h := 0xC1, l := 0x00, f := 0x00 } fun t =>
      t.a = 0x46 ∧ t.f = 0x00 ∧ t.pc = 0xC001 ∧ t.cycles = 8 := by decide

/-- V6 (R182): ADC A,0x01. -/
theorem test_V6_adc_a_0x01 :
    runsTo { S0 [0xCE, 0x01] with a := 0x0E, f := 0x10 } fun t =>
      t.a = 0x10 ∧ t.f = 0x20 ∧ t.pc = 0xC002 ∧ t.cycles = 8 := by decide

/-- V8 (R180): ADC A,A. -/
theorem test_V8_adc_a_a :
    runsTo { S0 [0x8F] with a := 0x88, f := 0x10 } fun t =>
      t.a = 0x11 ∧ t.f = 0x30 ∧ t.pc = 0xC001 ∧ t.cycles = 4 := by decide

/-- V9 (R183): SUB A,B. -/
theorem test_V9_sub_a_b :
    runsTo { S0 [0x90] with a := 0x3E, b := 0x3E, f := 0x00 } fun t =>
      t.a = 0x00 ∧ t.f = 0xC0 ∧ t.pc = 0xC001 ∧ t.cycles = 4 := by decide

/-- V10 (R185): SUB A,0x0F. -/
theorem test_V10_sub_a_0x0f :
    runsTo { S0 [0xD6, 0x0F] with a := 0x3E, f := 0x00 } fun t =>
      t.a = 0x2F ∧ t.f = 0x60 ∧ t.pc = 0xC002 ∧ t.cycles = 8 := by decide

/-- V14 (R188): SBC A,0x4F. -/
theorem test_V14_sbc_a_0x4f :
    runsTo { S0 [0xDE, 0x4F] with a := 0x3B, f := 0x10 } fun t =>
      t.a = 0xEB ∧ t.f = 0x70 ∧ t.pc = 0xC002 ∧ t.cycles = 8 := by decide

/-- V15 (R186): SBC A,A. -/
theorem test_V15_sbc_a_a :
    runsTo { S0 [0x9F] with a := 0x10, f := 0x10 } fun t =>
      t.a = 0xFF ∧ t.f = 0x70 ∧ t.pc = 0xC001 ∧ t.cycles = 4 := by decide

/-- V19 (R191): CP A,0x40. -/
theorem test_V19_cp_a_0x40 :
    runsTo { S0 [0xFE, 0x40] with a := 0x3C, f := 0x00 } fun t =>
      t.a = 0x3C ∧ t.f = 0x50 ∧ t.pc = 0xC002 ∧ t.cycles = 8 := by decide

/-- V20 (R194): AND A,0x3F. -/
theorem test_V20_and_a_0x3f :
    runsTo { S0 [0xE6, 0x3F] with a := 0x5A, f := 0x10 } fun t =>
      t.a = 0x1A ∧ t.f = 0x20 ∧ t.pc = 0xC002 ∧ t.cycles = 8 := by decide

/-- V22 (R197): OR A,0x03. -/
theorem test_V22_or_a_0x03 :
    runsTo { S0 [0xF6, 0x03] with a := 0x5A, f := 0xF0 } fun t =>
      t.a = 0x5B ∧ t.f = 0x00 ∧ t.pc = 0xC002 ∧ t.cycles = 8 := by decide

/-- V23 (R195): OR A,A. -/
theorem test_V23_or_a_a :
    runsTo { S0 [0xB7] with a := 0x00, f := 0x00 } fun t =>
      t.a = 0x00 ∧ t.f = 0x80 ∧ t.pc = 0xC001 ∧ t.cycles = 4 := by decide

/-- V24 (R198): XOR A,A. -/
theorem test_V24_xor_a_a :
    runsTo { S0 [0xAF] with a := 0x5A, f := 0x70 } fun t =>
      t.a = 0x00 ∧ t.f = 0x80 ∧ t.pc = 0xC001 ∧ t.cycles = 4 := by decide

/-- V25 (R200): XOR A,0x0F. -/
theorem test_V25_xor_a_0x0f :
    runsTo { S0 [0xEE, 0x0F] with a := 0xFF, f := 0x00 } fun t =>
      t.a = 0xF0 ∧ t.f = 0x00 ∧ t.pc = 0xC002 ∧ t.cycles = 8 := by decide

/-- V26 (R201): INC A. -/
theorem test_V26_inc_a :
    runsTo { S0 [0x3C] with a := 0xFF, f := 0x10 } fun t =>
      t.a = 0x00 ∧ t.f = 0xB0 ∧ t.pc = 0xC001 ∧ t.cycles = 4 := by decide

/-- V28 (R201): INC B. -/
theorem test_V28_inc_b :
    runsTo { S0 [0x04] with b := 0x50, f := 0x80 } fun t =>
      t.b = 0x51 ∧ t.f = 0x00 ∧ t.pc = 0xC001 ∧ t.cycles = 4 := by decide

/-- V29 (R203): DEC C. -/
theorem test_V29_dec_c :
    runsTo { S0 [0x0D] with c := 0x01, f := 0x00 } fun t =>
      t.c = 0x00 ∧ t.f = 0xC0 ∧ t.pc = 0xC001 ∧ t.cycles = 4 := by decide

/-- V31 (R203): DEC C. -/
theorem test_V31_dec_c :
    runsTo { S0 [0x0D] with c := 0x10, f := 0x00 } fun t =>
      t.c = 0x0F ∧ t.f = 0x60 ∧ t.pc = 0xC001 ∧ t.cycles = 4 := by decide

/-- V32 (R202): INC (HL). -/
theorem test_V32_inc_hl :
    runsTo { (S0 [0x34]).placeByte 0xC100 0xFF with h := 0xC1, l := 0x00, f := 0x00 } fun t =>
      t.f = 0xA0 ∧ t.pc = 0xC001 ∧ t.byteAt 0xC100 = some 0x00 ∧ t.cycles = 12 := by decide

/-- V33 (R204): DEC (HL). -/
theorem test_V33_dec_hl :
    runsTo { (S0 [0x35]).placeByte 0xC100 0x00 with h := 0xC1, l := 0x00, f := 0x10 } fun t =>
      t.f = 0x70 ∧ t.pc = 0xC001 ∧ t.byteAt 0xC100 = some 0xFF ∧ t.cycles = 12 := by decide

/-- V35 (R205): DAA. -/
theorem test_V35_daa :
    runsTo { S0 [0x27] with a := 0x9A, f := 0x00 } fun t =>
      t.a = 0x00 ∧ t.f = 0x90 ∧ t.pc = 0xC001 ∧ t.cycles = 4 := by decide

/-- V38 (R205): DAA. -/
theorem test_V38_daa :
    runsTo { S0 [0x27] with a := 0xFF, f := 0x70 } fun t =>
      t.a = 0x99 ∧ t.f = 0x50 ∧ t.pc = 0xC001 ∧ t.cycles = 4 := by decide

/-- V41 (R206): CPL. -/
theorem test_V41_cpl :
    runsTo { S0 [0x2F] with a := 0x35, f := 0x80 } fun t =>
      t.a = 0xCA ∧ t.f = 0xE0 ∧ t.pc = 0xC001 ∧ t.cycles = 4 := by decide

/-- V43 (R207): SCF. -/
theorem test_V43_scf :
    runsTo { S0 [0x37] with a := 0x00, f := 0xE0 } fun t =>
      t.a = 0x00 ∧ t.f = 0x90 ∧ t.pc = 0xC001 ∧ t.cycles = 4 := by decide

/-- V44 (R208): CCF. -/
theorem test_V44_ccf :
    runsTo { S0 [0x3F] with a := 0x00, f := 0xF0 } fun t =>
      t.a = 0x00 ∧ t.f = 0x80 ∧ t.pc = 0xC001 ∧ t.cycles = 4 := by decide

/-- V50 (R234): ADD HL,BC. -/
theorem test_V50_add_hl_bc :
    runsTo { S0 [0x09] with h := 0x0F, l := 0xFF, b := 0x00, c := 0x01, f := 0x00 } fun t =>
      t.h = 0x10 ∧ t.l = 0x00 ∧ t.f = 0x20 ∧ t.pc = 0xC001 ∧ t.cycles = 8 := by decide

/-- V54 (R234): ADD HL,SP. -/
theorem test_V54_add_hl_sp :
    runsTo { S0 [0x39] with h := 0x00, l := 0x01, sp := 0xFFFF, f := 0xC0 } fun t =>
      t.h = 0x00 ∧ t.l = 0x00 ∧ t.sp = 0xFFFF ∧ t.f = 0xB0 ∧ t.pc = 0xC001 ∧ t.cycles = 8 := by decide

/-- V55 (R232): INC BC. -/
theorem test_V55_inc_bc :
    runsTo { S0 [0x03] with b := 0xFF, c := 0xFF, f := 0xF0 } fun t =>
      t.b = 0x00 ∧ t.c = 0x00 ∧ t.f = 0xF0 ∧ t.pc = 0xC001 ∧ t.cycles = 8 := by decide

/-- V56 (R233): DEC DE. -/
theorem test_V56_dec_de :
    runsTo { S0 [0x1B] with d := 0x00, e := 0x00, f := 0x00 } fun t =>
      t.d = 0xFF ∧ t.e = 0xFF ∧ t.f = 0x00 ∧ t.pc = 0xC001 ∧ t.cycles = 8 := by decide

/-- V60 (R235): ADD SP,-1. -/
theorem test_V60_add_sp_minus1 :
    runsTo { S0 [0xE8, 0xFF] with sp := 0x0000, f := 0x00 } fun t =>
      t.sp = 0xFFFF ∧ t.f = 0x00 ∧ t.pc = 0xC002 ∧ t.cycles = 16 := by decide

/-- V62 (R235): ADD SP,-128. -/
theorem test_V62_add_sp_minus128 :
    runsTo { S0 [0xE8, 0x80] with sp := 0x0080, f := 0x00 } fun t =>
      t.sp = 0x0000 ∧ t.f = 0x10 ∧ t.pc = 0xC002 ∧ t.cycles = 16 := by decide

/-- V70 (R258): RLCA. -/
theorem test_V70_rlca :
    runsTo { S0 [0x07] with a := 0x85, f := 0x00 } fun t =>
      t.a = 0x0B ∧ t.f = 0x10 ∧ t.pc = 0xC001 ∧ t.cycles = 4 := by decide

/-- V71 (R258): RLCA. -/
theorem test_V71_rlca :
    runsTo { S0 [0x07] with a := 0x00, f := 0x80 } fun t =>
      t.a = 0x00 ∧ t.f = 0x00 ∧ t.pc = 0xC001 ∧ t.cycles = 4 := by decide

/-- V72 (R259): RRCA. -/
theorem test_V72_rrca :
    runsTo { S0 [0x0F] with a := 0x01, f := 0x00 } fun t =>
      t.a = 0x80 ∧ t.f = 0x10 ∧ t.pc = 0xC001 ∧ t.cycles = 4 := by decide

/-- V73 (R260): RLA. -/
theorem test_V73_rla :
    runsTo { S0 [0x17] with a := 0x80, f := 0x00 } fun t =>
      t.a = 0x00 ∧ t.f = 0x10 ∧ t.pc = 0xC001 ∧ t.cycles = 4 := by decide

/-- V75 (R261): RRA. -/
theorem test_V75_rra :
    runsTo { S0 [0x1F] with a := 0x01, f := 0x00 } fun t =>
      t.a = 0x00 ∧ t.f = 0x10 ∧ t.pc = 0xC001 ∧ t.cycles = 4 := by decide

/-- V77 (R262): RLC B. -/
theorem test_V77_rlc_b :
    runsTo { S0 [0xCB, 0x00] with b := 0x00, f := 0x00 } fun t =>
      t.b = 0x00 ∧ t.f = 0x80 ∧ t.pc = 0xC002 ∧ t.cycles = 8 := by decide

/-- V78 (R262): RLC B. -/
theorem test_V78_rlc_b :
    runsTo { S0 [0xCB, 0x00] with b := 0x85, f := 0x00 } fun t =>
      t.b = 0x0B ∧ t.f = 0x10 ∧ t.pc = 0xC002 ∧ t.cycles = 8 := by decide

/-- V79 (R264): RRC C. -/
theorem test_V79_rrc_c :
    runsTo { S0 [0xCB, 0x09] with c := 0x01, f := 0x00 } fun t =>
      t.c = 0x80 ∧ t.f = 0x10 ∧ t.pc = 0xC002 ∧ t.cycles = 8 := by decide

/-- V80 (R266): RL D. -/
theorem test_V80_rl_d :
    runsTo { S0 [0xCB, 0x12] with d := 0x80, f := 0x00 } fun t =>
      t.d = 0x00 ∧ t.f = 0x90 ∧ t.pc = 0xC002 ∧ t.cycles = 8 := by decide

/-- V81 (R268): RR E. -/
theorem test_V81_rr_e :
    runsTo { S0 [0xCB, 0x1B] with e := 0x01, f := 0x10 } fun t =>
      t.e = 0x80 ∧ t.f = 0x10 ∧ t.pc = 0xC002 ∧ t.cycles = 8 := by decide

/-- V82 (R270): SLA H. -/
theorem test_V82_sla_h :
    runsTo { S0 [0xCB, 0x24] with h := 0x80, f := 0x00 } fun t =>
      t.h = 0x00 ∧ t.f = 0x90 ∧ t.pc = 0xC002 ∧ t.cycles = 8 := by decide

/-- V84 (R272): SRA A. -/
theorem test_V84_sra_a :
    runsTo { S0 [0xCB, 0x2F] with a := 0x81, f := 0x00 } fun t =>
      t.a = 0xC0 ∧ t.f = 0x10 ∧ t.pc = 0xC002 ∧ t.cycles = 8 := by decide

/-- V86 (R274): SWAP A. -/
theorem test_V86_swap_a :
    runsTo { S0 [0xCB, 0x37] with a := 0xF0, f := 0x70 } fun t =>
      t.a = 0x0F ∧ t.f = 0x00 ∧ t.pc = 0xC002 ∧ t.cycles = 8 := by decide

/-- V88 (R276): SRL A. -/
theorem test_V88_srl_a :
    runsTo { S0 [0xCB, 0x3F] with a := 0x01, f := 0x00 } fun t =>
      t.a = 0x00 ∧ t.f = 0x90 ∧ t.pc = 0xC002 ∧ t.cycles = 8 := by decide

/-- V90 (R267): RL (HL). -/
theorem test_V90_rl_hl :
    runsTo { (S0 [0xCB, 0x16]).placeByte 0xC100 0x80 with h := 0xC1, l := 0x00, f := 0x00 } fun t =>
      t.f = 0x90 ∧ t.pc = 0xC002 ∧ t.byteAt 0xC100 = some 0x00 ∧ t.cycles = 16 := by decide

/-- V91 (R278): BIT 7,H. -/
theorem test_V91_bit_7_h :
    runsTo { S0 [0xCB, 0x7C] with h := 0x80, f := 0x50 } fun t =>
      t.h = 0x80 ∧ t.f = 0x30 ∧ t.pc = 0xC002 ∧ t.cycles = 8 := by decide

/-- V93 (R279): BIT 3,(HL). -/
theorem test_V93_bit_3_hl :
    runsTo { (S0 [0xCB, 0x5E]).placeByte 0xC100 0x08 with h := 0xC1, l := 0x00, f := 0x10 } fun t =>
      t.f = 0x30 ∧ t.pc = 0xC002 ∧ t.byteAt 0xC100 = some 0x08 ∧ t.cycles = 12 := by decide

/-- V94 (R280): RES 7,A. -/
theorem test_V94_res_7_a :
    runsTo { S0 [0xCB, 0xBF] with a := 0xFF, f := 0xF0 } fun t =>
      t.a = 0x7F ∧ t.f = 0xF0 ∧ t.pc = 0xC002 ∧ t.cycles = 8 := by decide

/-- V95 (R283): SET 0,(HL). -/
theorem test_V95_set_0_hl :
    runsTo { (S0 [0xCB, 0xC6]).placeByte 0xC100 0x00 with h := 0xC1, l := 0x00, f := 0x00 } fun t =>
      t.f = 0x00 ∧ t.pc = 0xC002 ∧ t.byteAt 0xC100 = some 0x01 ∧ t.cycles = 16 := by decide

/-- V97 (R275): SWAP (HL). -/
theorem test_V97_swap_hl :
    runsTo { (S0 [0xCB, 0x36]).placeByte 0xC100 0xA5 with h := 0xC1, l := 0x00, f := 0x10 } fun t =>
      t.f = 0x00 ∧ t.pc = 0xC002 ∧ t.byteAt 0xC100 = some 0x5A ∧ t.cycles = 16 := by decide

/-- V98 (R273): SRA (HL). -/
theorem test_V98_sra_hl :
    runsTo { (S0 [0xCB, 0x2E]).placeByte 0xC100 0x80 with h := 0xC1, l := 0x00, f := 0x00 } fun t =>
      t.f = 0x00 ∧ t.pc = 0xC002 ∧ t.byteAt 0xC100 = some 0xC0 ∧ t.cycles = 16 := by decide

/-- V99 (R281): RES 7,(HL). -/
theorem test_V99_res_7_hl :
    runsTo { (S0 [0xCB, 0xBE]).placeByte 0xC100 0xFF with h := 0xC1, l := 0x00, f := 0x00 } fun t =>
      t.f = 0x00 ∧ t.pc = 0xC002 ∧ t.byteAt 0xC100 = some 0x7F ∧ t.cycles = 16 := by decide

/-- V100 (R290): LD A,B. -/
theorem test_V100_ld_a_b :
    runsTo { S0 [0x78] with a := 0x00, b := 0x12, f := 0x00 } fun t =>
      t.a = 0x12 ∧ t.b = 0x12 ∧ t.f = 0x00 ∧ t.pc = 0xC001 ∧ t.cycles = 4 := by decide

/-- V101 (R290): LD B,B. -/
theorem test_V101_ld_b_b :
    runsTo { S0 [0x40] with b := 0x12, f := 0x00 } fun t =>
      t.b = 0x12 ∧ t.pc = 0xC001 ∧ t.f = 0x00 ∧ t.cycles = 4 := by decide

/-- V102 (R292): LD H,(HL). -/
theorem test_V102_ld_h_hl :
    runsTo { (S0 [0x66]).placeByte 0xC100 0x5A with h := 0xC1, l := 0x00, f := 0x00 } fun t =>
      t.h = 0x5A ∧ t.l = 0x00 ∧ t.f = 0x00 ∧ t.pc = 0xC001 ∧ t.cycles = 8 := by decide

/-- V103 (R293): LD (HL),H. -/
theorem test_V103_ld_hl_h :
    runsTo { S0 [0x74] with h := 0xC1, l := 0x00, f := 0x00 } fun t =>
      t.f = 0x00 ∧ t.pc = 0xC001 ∧ t.byteAt 0xC100 = some 0xC1 ∧ t.cycles = 8 := by decide

/-- V104 (R294): LD (HL),0x42. -/
theorem test_V104_ld_hl_0x42 :
    runsTo { S0 [0x36, 0x42] with h := 0xFF, l := 0x80, f := 0x00 } fun t =>
      t.f = 0x00 ∧ t.pc = 0xC002 ∧ t.byteAt 0xFF80 = some 0x42 ∧ t.cycles = 12 := by decide

/-- V105 (R296): LD A,(DE). -/
theorem test_V105_ld_a_de :
    runsTo { (S0 [0x1A]).placeByte 0xC010 0x33 with d := 0xE0, e := 0x10, f := 0x00 } fun t =>
      t.a = 0x33 ∧ t.f = 0x00 ∧ t.pc = 0xC001 ∧ t.cycles = 8 := by decide

/-- V106 (R297): LD (BC),A. -/
theorem test_V106_ld_bc_a :
    runsTo { S0 [0x02] with b := 0xFF, c := 0xFF, a := 0x1F, f := 0x00 } fun t =>
      t.ieReg = 0x1F ∧ t.f = 0x00 ∧ t.pc = 0xC001 ∧ t.cycles = 8 := by decide

/-- V107 (R299): LD A,(0xFF80). -/
theorem test_V107_ld_a_0xff80 :
    runsTo { (S0 [0xFA, 0x80, 0xFF]).placeByte 0xFF80 0x42 with f := 0x00 } fun t =>
      t.a = 0x42 ∧ t.pc = 0xC003 ∧ t.f = 0x00 ∧ t.cycles = 16 := by decide

/-- V108 (R300): LD (0xFF0F),A. -/
theorem test_V108_ld_0xff0f_a :
    runsTo { S0 [0xEA, 0x0F, 0xFF] with a := 0xE4, f := 0x00 } fun t =>
      t.ifReg = 0xE4 ∧ t.f = 0x00 ∧ t.pc = 0xC003 ∧ t.cycles = 16 := by decide

/-- V109 (R301): LDH A,(0xFF). -/
theorem test_V109_ldh_a_0xff :
    runsTo { S0 [0xF0, 0xFF] with ieReg := 0x05, f := 0x00 } fun t =>
      t.a = 0x05 ∧ t.f = 0x00 ∧ t.pc = 0xC002 ∧ t.cycles = 12 := by decide

/-- V110 (R302): LDH (0x81),A. -/
theorem test_V110_ldh_0x81_a :
    runsTo { S0 [0xE0, 0x81] with a := 0x99, f := 0x00 } fun t =>
      t.f = 0x00 ∧ t.pc = 0xC002 ∧ t.byteAt 0xFF81 = some 0x99 ∧ t.cycles = 12 := by decide

/-- V111 (R303): LD A,(C). -/
theorem test_V111_ld_a_c :
    runsTo { (S0 [0xF2]).placeByte 0xFF81 0x07 with c := 0x81, f := 0x00 } fun t =>
      t.a = 0x07 ∧ t.f = 0x00 ∧ t.pc = 0xC001 ∧ t.cycles = 8 := by decide

/-- V112 (R304): LD (C),A. -/
theorem test_V112_ld_c_a :
    runsTo { S0 [0xE2] with c := 0xFF, a := 0x00, ieReg := 0x1F, f := 0x00 } fun t =>
      t.ieReg = 0x00 ∧ t.f = 0x00 ∧ t.pc = 0xC001 ∧ t.cycles = 8 := by decide

/-- V113 (R305): LD (HL+),A. -/
theorem test_V113_ld_hlinc_a :
    runsTo { S0 [0x22] with h := 0xC0, l := 0x00, a := 0xAA, f := 0x00 } fun t =>
      t.h = 0xC0 ∧ t.l = 0x01 ∧ t.f = 0x00 ∧ t.pc = 0xC001 ∧ t.byteAt 0xC000 = some 0xAA ∧ t.cycles = 8 := by decide

/-- V114 (R306): LD (HL-),A. -/
theorem test_V114_ld_hlminus_a :
    runsTo { S0 [0x32] with h := 0xDF, l := 0xFF, a := 0x01, f := 0x00 } fun t =>
      t.h = 0xDF ∧ t.l = 0xFE ∧ t.f = 0x00 ∧ t.pc = 0xC001 ∧ t.byteAt 0xDFFF = some 0x01 ∧ t.cycles = 8 := by decide

/-- V115 (R307): LD A,(HL+). -/
theorem test_V115_ld_a_hlinc :
    runsTo { S0 [0x2A] with h := 0xFF, l := 0xFF, ieReg := 0x3C, f := 0x00 } fun t =>
      t.a = 0x3C ∧ t.h = 0x00 ∧ t.l = 0x00 ∧ t.f = 0x00 ∧ t.pc = 0xC001 ∧ t.cycles = 8 := by decide

/-- V116 (R308): LD A,(HL-). -/
theorem test_V116_ld_a_hlminus :
    runsTo { (S0 [0x3A]).placeByte 0xC001 0x20 with h := 0xC0, l := 0x01, f := 0x00 } fun t =>
      t.a = 0x20 ∧ t.h = 0xC0 ∧ t.l = 0x00 ∧ t.f = 0x00 ∧ t.pc = 0xC001 ∧ t.cycles = 8 := by decide

/-- V120 (R331): LD BC,0x1234. -/
theorem test_V120_ld_bc_0x1234 :
    runsTo { S0 [0x01, 0x34, 0x12] with f := 0x00 } fun t =>
      t.b = 0x12 ∧ t.c = 0x34 ∧ t.pc = 0xC003 ∧ t.f = 0x00 ∧ t.cycles = 12 := by decide

/-- V122 (R332): LD (0xC100),SP. -/
theorem test_V122_ld_0xc100_sp :
    runsTo { S0 [0x08, 0x00, 0xC1] with sp := 0xFFF8, f := 0x00 } fun t =>
      t.f = 0x00 ∧ t.pc = 0xC003 ∧ t.byteAt 0xC100 = some 0xF8 ∧ t.byteAt 0xC101 = some 0xFF ∧ t.cycles = 20 := by decide

/-- V123 (R333): LD SP,HL. -/
theorem test_V123_ld_sp_hl :
    runsTo { S0 [0xF9] with h := 0xDF, l := 0xFF, f := 0x00 } fun t =>
      t.sp = 0xDFFF ∧ t.f = 0x00 ∧ t.pc = 0xC001 ∧ t.cycles = 8 := by decide

/-- V124 (R334): LD HL,SP+2. -/
theorem test_V124_ld_hl_spinc2 :
    runsTo { S0 [0xF8, 0x02] with sp := 0xFFF8, f := 0x00 } fun t =>
      t.h = 0xFF ∧ t.l = 0xFA ∧ t.sp = 0xFFF8 ∧ t.f = 0x00 ∧ t.pc = 0xC002 ∧ t.cycles = 12 := by decide

/-- V126 (R335): PUSH BC. -/
theorem test_V126_push_bc :
    runsTo { S0 [0xC5] with b := 0x12, c := 0x34, f := 0x00 } fun t =>
      t.sp = 0xDFEE ∧ t.f = 0x00 ∧ t.pc = 0xC001 ∧ t.byteAt 0xDFEE = some 0x34 ∧ t.byteAt 0xDFEF = some 0x12 ∧ t.cycles = 16 := by decide

/-- V127 (R336): PUSH AF. -/
theorem test_V127_push_af :
    runsTo { S0 [0xF5] with a := 0x01, f := 0xB0 } fun t =>
      t.sp = 0xDFEE ∧ t.f = 0xB0 ∧ t.pc = 0xC001 ∧ t.byteAt 0xDFEE = some 0xB0 ∧ t.byteAt 0xDFEF = some 0x01 ∧ t.cycles = 16 := by decide

/-- V128 (R337): POP DE. -/
theorem test_V128_pop_de :
    runsTo { ((S0 [0xD1]).placeByte 0xDFEE 0x34).placeByte 0xDFEF 0x12 with sp := 0xDFEE, f := 0x00 } fun t =>
      t.d = 0x12 ∧ t.e = 0x34 ∧ t.sp = 0xDFF0 ∧ t.f = 0x00 ∧ t.pc = 0xC001 ∧ t.cycles = 12 := by decide

/-- V129 (R338): POP AF. -/
theorem test_V129_pop_af :
    runsTo { ((S0 [0xF1]).placeByte 0xDFEE 0xFF).placeByte 0xDFEF 0x12 with sp := 0xDFEE, f := 0x00 } fun t =>
      t.a = 0x12 ∧ t.sp = 0xDFF0 ∧ t.f = 0xF0 ∧ t.pc = 0xC001 ∧ t.cycles = 12 := by decide

/-- V130 (R338): POP AF. -/
theorem test_V130_pop_af :
    runsTo { ((S0 [0xF1]).placeByte 0xDFEE 0x0F).placeByte 0xDFEF 0x00 with sp := 0xDFEE, f := 0xF0 } fun t =>
      t.a = 0x00 ∧ t.sp = 0xDFF0 ∧ t.f = 0x00 ∧ t.pc = 0xC001 ∧ t.cycles = 12 := by decide

/-- V140 (R361): JP 0xC150. -/
theorem test_V140_jp_0xc150 :
    runsTo { S0 [0xC3, 0x50, 0xC1] with f := 0x00 } fun t =>
      t.pc = 0xC150 ∧ t.f = 0x00 ∧ t.cycles = 16 := by decide

/-- V141 (R362): JP NZ,0xC150. -/
theorem test_V141_jp_nz_0xc150 :
    runsTo { S0 [0xC2, 0x50, 0xC1] with f := 0x80 } fun t =>
      t.pc = 0xC003 ∧ t.f = 0x80 ∧ t.cycles = 12 := by decide

/-- V142 (R362): JP Z,0xC150. -/
theorem test_V142_jp_z_0xc150 :
    runsTo { S0 [0xCA, 0x50, 0xC1] with f := 0x80 } fun t =>
      t.pc = 0xC150 ∧ t.f = 0x80 ∧ t.cycles = 16 := by decide

/-- V143 (R363): JP HL. -/
theorem test_V143_jp_hl :
    runsTo { S0 [0xE9] with h := 0xC1, l := 0x23, f := 0x00 } fun t =>
      t.pc = 0xC123 ∧ t.f = 0x00 ∧ t.cycles = 4 := by decide

/-- V144 (R364): JR 5. -/
theorem test_V144_jr_5 :
    runsTo { S0 [0x18, 0x05] with f := 0x00 } fun t =>
      t.pc = 0xC007 ∧ t.f = 0x00 ∧ t.cycles = 12 := by decide

/-- V146 (R365): JR C,-4. -/
theorem test_V146_jr_c_minus4 :
    runsTo { S0 [0x38, 0xFC] with f := 0x10 } fun t =>
      t.pc = 0xBFFE ∧ t.f = 0x10 ∧ t.cycles = 12 := by decide

/-- V147 (R365): JR NC,-4. -/
theorem test_V147_jr_nc_minus4 :
    runsTo { S0 [0x30, 0xFC] with f := 0x10 } fun t =>
      t.pc = 0xC002 ∧ t.f = 0x10 ∧ t.cycles = 8 := by decide

/-- V148 (R366): CALL 0xC100. -/
theorem test_V148_call_0xc100 :
    runsTo { S0 [0xCD, 0x00, 0xC1] with f := 0x00 } fun t =>
      t.pc = 0xC100 ∧ t.sp = 0xDFEE ∧ t.f = 0x00 ∧ t.byteAt 0xDFEE = some 0x03 ∧ t.byteAt 0xDFEF = some 0xC0 ∧ t.cycles = 24 := by decide

/-- V149 (R367): CALL Z,0xC100. -/
theorem test_V149_call_z_0xc100 :
    runsTo { S0 [0xCC, 0x00, 0xC1] with f := 0x00 } fun t =>
      t.pc = 0xC003 ∧ t.sp = 0xDFF0 ∧ t.f = 0x00 ∧ t.cycles = 12 := by decide

/-- V150 (R367): CALL NC,0xC100. -/
theorem test_V150_call_nc_0xc100 :
    runsTo { S0 [0xD4, 0x00, 0xC1] with f := 0x00 } fun t =>
      t.pc = 0xC100 ∧ t.sp = 0xDFEE ∧ t.f = 0x00 ∧ t.byteAt 0xDFEE = some 0x03 ∧ t.byteAt 0xDFEF = some 0xC0 ∧ t.cycles = 24 := by decide

/-- V151 (R368): RET. -/
theorem test_V151_ret :
    runsTo { ((S0 [0xC9]).placeByte 0xDFEE 0x03).placeByte 0xDFEF 0xC0 with sp := 0xDFEE, f := 0x00 } fun t =>
      t.pc = 0xC003 ∧ t.sp = 0xDFF0 ∧ t.f = 0x00 ∧ t.cycles = 16 := by decide

/-- V152 (R369): RET C. -/
theorem test_V152_ret_c :
    runsTo { ((S0 [0xD8]).placeByte 0xDFEE 0x03).placeByte 0xDFEF 0xC0 with sp := 0xDFEE, f := 0x00 } fun t =>
      t.pc = 0xC001 ∧ t.sp = 0xDFEE ∧ t.f = 0x00 ∧ t.cycles = 8 := by decide

/-- V153 (R369): RET NZ. -/
theorem test_V153_ret_nz :
    runsTo { ((S0 [0xC0]).placeByte 0xDFEE 0x03).placeByte 0xDFEF 0xC0 with sp := 0xDFEE, f := 0x00 } fun t =>
      t.pc = 0xC003 ∧ t.sp = 0xDFF0 ∧ t.f = 0x00 ∧ t.cycles = 20 := by decide

/-- V154 (R370): RETI. -/
theorem test_V154_reti :
    runsTo { ((S0 [0xD9]).placeByte 0xDFEE 0x53).placeByte 0xDFEF 0x01 with sp := 0xDFEE, f := 0x00 } fun t =>
      t.pc = 0x0153 ∧ t.sp = 0xDFF0 ∧ t.ime = true ∧ t.f = 0x00 ∧ t.cycles = 16 := by decide

/-- V155 (R371): RST 0x28. -/
theorem test_V155_rst_0x28 :
    runsTo { S0 [0xEF] with f := 0x00 } fun t =>
      t.pc = 0x0028 ∧ t.sp = 0xDFEE ∧ t.f = 0x00 ∧ t.byteAt 0xDFEE = some 0x01 ∧ t.byteAt 0xDFEF = some 0xC0 ∧ t.cycles = 16 := by decide

/-- V160 (R390): NOP. -/
theorem test_V160_nop :
    runsTo { S0 [0x00] with f := 0x00 } fun t =>
      t.pc = 0xC001 ∧ t.f = 0x00 ∧ t.cycles = 4 := by decide

/-- V161 (R391): HALT. -/
theorem test_V161_halt :
    runsTo { S0 [0x76] with f := 0x00 } fun t =>
      t.pc = 0xC001 ∧ t.halted = true ∧ t.f = 0x00 ∧ t.cycles = 4 := by decide

/-- V162 (R392): STOP. -/
theorem test_V162_stop :
    runsTo { S0 [0x10, 0x00] with f := 0x00 } fun t =>
      t.pc = 0xC002 ∧ t.stopped = true ∧ t.f = 0x00 ∧ t.cycles = 4 := by decide

/-- V163 (R393): DI. -/
theorem test_V163_di :
    runsTo { S0 [0xF3] with ime := true, f := 0x00 } fun t =>
      t.ime = false ∧ t.eiPending = false ∧ t.f = 0x00 ∧ t.pc = 0xC001 ∧ t.cycles = 4 := by decide

/-- V164 (R393): DI. -/
theorem test_V164_di :
    runsTo { S0 [0xF3] with eiPending := true, f := 0x00 } fun t =>
      t.ime = false ∧ t.eiPending = false ∧ t.f = 0x00 ∧ t.pc = 0xC001 ∧ t.cycles = 4 := by decide

/-- V165 (R394): EI. -/
theorem test_V165_ei :
    runsTo { S0 [0xFB] with f := 0x00 } fun t =>
      t.ime = false ∧ t.eiPending = true ∧ t.f = 0x00 ∧ t.pc = 0xC001 ∧ t.cycles = 4 := by decide

/-- V166 (R394): EI. -/
theorem test_V166_ei :
    runsTo { S0 [0xFB] with ime := true, f := 0x00 } fun t =>
      t.ime = true ∧ t.eiPending = false ∧ t.f = 0x00 ∧ t.pc = 0xC001 ∧ t.cycles = 4 := by decide

/-! Dispatcher, interrupt and fault vectors. -/

/-- T1, step 1: EI only sets the latch. Step 2: no service, then IME is set and the NOP runs. -/
theorem test_T1_enable_is_delayed :
    runsTo { S0 [0x00] with ifReg := 0x01, ieReg := 0x01, eiPending := true } fun t =>
      t.ime = true ∧ t.eiPending = false ∧ t.pc = 0xC001 ∧ t.ifReg = 0x01 ∧ t.cycles = 4 := by decide

/-- T2, step 2: DI right after EI cancels it, and no service is taken. -/
theorem test_T2_di_cancels_ei :
    runsTo { S0 [0xF3] with ifReg := 0x01, ieReg := 0x01, eiPending := true } fun t =>
      t.ime = false ∧ t.eiPending = false ∧ t.pc = 0xC001 ∧ t.ifReg = 0x01 := by decide

/-- T3, step 1: with EI_DELAYED off, EI sets IME at once. -/
theorem test_T3_undelayed_enable :
    runsTo { S0 [0xFB] with params := { eiDelayed := false } } fun t => t.ime = true ∧ t.eiPending = false := by decide

/-- T4, step 3: a host request wakes the halted machine into the service. -/
theorem test_T4_wake_into_service :
    runsTo { S0 [0x76] with pc := 0xC001, ime := true, halted := true, ieReg := 0x01, inbox := [[.raise 0b00001]] } fun t =>
      t.halted = false ∧ t.ime = false ∧ t.pc = 0x0040 ∧ t.sp = 0xDFEE ∧ t.byteAt 0xDFEE = some 0x01 ∧
      t.byteAt 0xDFEF = some 0xC0 ∧ t.ifReg = 0x00 ∧ t.cycles = 20 := by decide

/-- T5, step 3: with IME = 0 the pending source only ends the halt, and INC B runs in the same step. -/
theorem test_T5_wake_without_service :
    runsTo { S0 [0x76, 0x04] with pc := 0xC001, halted := true, ifReg := 0x04, ieReg := 0x04 } fun t =>
      t.halted = false ∧ t.b = 0x01 ∧ t.pc = 0xC002 ∧ t.ifReg = 0x04 ∧ t.cycles = 4 := by decide

/-- T7: the lowest pending bit is served, and only its request is cleared. -/
theorem test_T7_priority :
    runsTo { S0 [0x00] with ime := true, ifReg := 0x05, ieReg := 0x05 } fun t =>
      t.pc = 0x0040 ∧ t.ifReg = 0x04 ∧ t.ieReg = 0x05 ∧ t.sp = 0xDFEE ∧ t.ime = false := by decide

/-- L1.10: JOYPAD alone has the vector 0x60. -/
theorem test_L110_joypad_vector :
    runsTo { S0 [0x00] with ime := true, ifReg := 0x10, ieReg := 0x10 } fun t => t.pc = 0x0060 ∧ t.ifReg = 0x00 := by
  decide

/-- T9: bits 7:5 of IF and IE take no part, and are kept. -/
theorem test_T9_upper_bits :
    runsTo { S0 [0x00] with ime := true, ifReg := 0xE0, ieReg := 0xE0 } fun t =>
      t.pc = 0xC001 ∧ t.ifReg = 0xE0 ∧ t.ieReg = 0xE0 := by decide

/-- T10, steps 3 and 4: stopped comes before the interrupt check, and the stop-wake input ends it. -/
theorem test_T10_stopped :
    runsTo { S0 [0x10, 0x00] with
      pc := 0xC002, ime := true, stopped := true, ieReg := 0x01, inbox := [[.raise 0b00001]] } fun t =>
      t.stopped = true ∧ t.pc = 0xC002 ∧ t.ifReg = 0x01 ∧ t.cycles = 4 := by decide

theorem test_T10_stop_wake :
    runsTo { S0 [0x10, 0x00] with
      pc := 0xC002, ime := true, stopped := true, ifReg := 0x01, ieReg := 0x01, inbox := [[.stopWake]] } fun t =>
      t.stopped = false ∧ t.pc = 0x0040 ∧ t.byteAt 0xDFEE = some 0x02 ∧ t.ifReg = 0x00 ∧ t.cycles = 20 := by decide

/-- X1: the fault at 0x0150, with the byte from the cartridge. -/
theorem test_X1_unimplemented_opcode :
    faultsWith ({ S0 [] with pc := 0x0150 }.placeByte 0x0150 0xD3) (.unimplementedOpcode 0xD3 0x0150) fun t =>
      t.pc = 0x0151 ∧ t.a = 0x01 ∧ t.cycles = 0 := by decide

/-- X3: a fatal read, after both immediates were fetched. -/
theorem test_X3_unmapped_read :
    faultsWith (S0 [0xFA, 0x00, 0x80]) (.unmappedAddress 0x8000 .read 0xC000) fun t => t.pc = 0xC003 ∧ t.a = 0x01 := by
  decide

/-- X4: the same read under open bus. -/
theorem test_X4_open_bus :
    runsTo { S0 [0xFA, 0x00, 0x80] with params := { unmappedPolicy := .openBus } } fun t =>
      t.a = 0xFF ∧ t.pc = 0xC003 ∧ t.cycles = 16 := by decide

/-- X6: the low byte of a 16-bit store stays when the high byte faults. -/
theorem test_X6_partial_store :
    faultsWith { S0 [0x08, 0xFF, 0xFD] with sp := 0x1234 } (.unmappedAddress 0xFE00 .write 0xC000) fun t =>
      t.byteAt 0xDDFF = some 0x34 ∧ t.sp = 0x1234 := by decide

/-- X8: a push that faults at its high byte has moved SP and written its low byte. -/
theorem test_X8_partial_push :
    faultsWith { S0 [0xC5] with sp := 0xFE01, b := 0x12, c := 0x34 } (.unmappedAddress 0xFE00 .write 0xC000) fun t =>
      t.sp = 0xFDFF ∧ t.byteAt 0xDDFF = some 0x34 := by decide

/-- X9, step 2: a faulting fetch does not move PC. -/
theorem test_X9_unmapped_fetch :
    faultsWith { S0 [] with pc := 0x8000 } (.unmappedAddress 0x8000 .fetch 0x8000) fun t => t.pc = 0x8000 := by decide

/-- X10, step 2: the open-bus byte 0xFF runs RST 0x38. -/
theorem test_X10_open_bus_fetch :
    runsTo { S0 [] with pc := 0x8000, params := { unmappedPolicy := .openBus } } fun t =>
      t.pc = 0x0038 ∧ t.sp = 0xDFEE ∧ t.byteAt 0xDFEE = some 0x01 ∧ t.byteAt 0xDFEF = some 0x80 ∧ t.cycles = 16 := by
  decide

/-- X11: a service whose push faults has cleared IME and moved SP, and kept the request and PC. -/
theorem test_X11_service_fault :
    faultsWith { S0 [0x00] with sp := 0xFF81, ime := true, ifReg := 0x01, ieReg := 0x01 }
      (.unmappedAddress 0xFF7F .write 0xC000) fun t =>
      t.ime = false ∧ t.sp = 0xFF7F ∧ t.ifReg = 0x01 ∧ t.pc = 0xC000 := by decide

/-- R75: a read of the cartridge uses up the answer promised to it, and the next read of the same address has the next answer. -/
theorem test_R75_a_read_uses_up_its_answer :
    runsTo { S0 [0x7E] with h := 0x40, l := 0x00, answers := { cartridge := [0x5A, 0xA5], video := [0x11] } } fun t =>
      t.a = 0x5A ∧ t.readValue 0x4000 = 0xA5 ∧ t.answers = { cartridge := [0xA5], video := [0x11] } := by decide

/-- R75: a write to the cartridge leaves none of its later answers promised, and none of the video controller's touched. -/
theorem test_R75_a_write_withdraws_the_promises :
    runsTo { S0 [0x77] with h := 0x20, l := 0x00, answers := { cartridge := [0x5A, 0xA5], video := [0x11] } } fun t =>
      t.answers = { video := [0x11] } ∧ t.trace = [⟨.fetch, 0xC000, 0x77⟩, ⟨.write, 0x2000, 0x01⟩] := by decide

/-- L1.9: reset with a non-zero header checksum. -/
theorem test_L19_reset_flags :
    (State.resetWith { headerChecksum := 0x5A }).f = 0xB0 ∧ State.reset.f = 0x80 ∧ State.reset.pc = 0x0100 := by decide

/-- A word placed for the step after reset is what that step runs: INC A. -/
theorem test_fetch_word_after_reset :
    runsTo (State.reset.withFetchWord 8 0x3C) fun t => t.a = 0x02 ∧ t.pc = 0x0101 := by decide

/-! Witnesses: for each statement with hypotheses, concrete states and operands that meet them, a boundary case for each clause. -/

/-- An instruction's state in which HL names the top byte of memory, and one in which HL names an unmapped byte. -/
def atHl (h l : Byte) : State := { S0 [] with h := h, l := l }

theorem test_witness_DecodeOfEncodeIsTheInstruction :
    (Instr.illegal 0xFD).wf = true ∧ (Instr.ldMemN16Sp 0xFFFF).wf = true ∧ Instr.set7A.wf = true := by decide

theorem test_witness_EncodeOfDecodeIsTheBytes :
    decode [0xFF] = .ok (.rst38, []) ∧ decode [0x10, 0xFF] = .ok (.stop 0xFF, []) ∧
    decode [0xFA, 0xFF, 0xFF, 0x00] = .ok (.ldAMemN16 0xFFFF, [0x00]) ∧ decode [0xCB, 0xFF] = .ok (.set7A, []) :=
  ⟨rfl, rfl, rfl, rfl⟩

theorem test_witness_LengthIsDecidedByTheFirstByte :
    lengthOf 0x08 ≤ [(0x08 : Byte), 0xFF, 0xFF].length ∧ [(0x08 : Byte), 0xFF].length < lengthOf 0x08 ∧
    (0xD3 : Byte) ∈ illegalBytes ∧ (0xFD : Byte) ∈ illegalBytes := by decide

theorem test_witness_StepRunsTheDecodedInstruction :
    (let s := (({ S0 [] with pc := 0xFFFE }.placeByte 0xFFFE 0xC3).placeByte 0xFFFF 0x50).placeByte 0x0000 0x01
     Instr.wf (.jpN16 0x0150) = true ∧ Fetches s ∧ encode (.jpN16 0x0150) = [0xC3, 0x50, 0x01] ∧
     ∀ k < 3, ∀ v, (encode (.jpN16 0x0150))[k]? = some v →
       (fetched k (startFetch s)).accessible (fetched k (startFetch s)).pc = true ∧
       (fetched k (startFetch s)).readValue (fetched k (startFetch s)).pc = v) ∧
    (let s := S0 [0xC3, 0x50, 0x01]
     Fetches s ∧ (atFetch s).byteAt 0xC000 = some 0xC3 ∧ (atFetch s).byteAt 0xC001 = some 0x50 ∧
     (atFetch s).byteAt 0xC002 = some 0x01) := by
  refine ⟨⟨by decide, by unfold Fetches; decide, by decide, ?_⟩, by unfold Fetches; decide⟩
  intro k hk v hv
  have h : k = 0 ∨ k = 1 ∨ k = 2 := by omega
  rcases h with rfl | rfl | rfl <;> obtain rfl := Option.some.inj hv <;> decide

theorem test_witness_StoppedStepChangesNothing :
    let s := { S0 [] with stopped := true, ime := true, ifReg := 0xFF, ieReg := 0xFF }
    s.faulted = none ∧ s.inbox = [] ∧ s.stopped = true := by decide

theorem test_witness_HaltedStepWithNothingPendingIdles :
    let s := { S0 [] with halted := true, ime := true, ifReg := 0xE0, ieReg := 0xFF }
    s.faulted = none ∧ s.inbox = [] ∧ s.stopped = false ∧ s.halted = true ∧ s.ifReg &&& s.ieReg &&& 0x1F = 0 := by decide

theorem test_witness_PendingSourceWakesWithoutService :
    let s := { S0 [] with halted := true, ifReg := 0x10, ieReg := 0x10 }
    s.faulted = none ∧ s.inbox = [] ∧ s.stopped = false ∧ s.halted = true ∧ s.ime = false ∧
    s.ifReg &&& s.ieReg &&& 0x1F ≠ 0 := by decide

theorem test_witness_PendingEnableTakesEffectBeforeTheFetch :
    let s := { S0 [0xF3] with eiPending := true, ifReg := 0x1F, ieReg := 0x1F }
    s.faulted = none ∧ s.inbox = [] ∧ s.stopped = false ∧ s.halted = false ∧ s.ime = false ∧ s.eiPending = true ∧
    s.beginStep.latchEnable.accessible s.pc = true ∧ s.beginStep.latchEnable.readValue s.pc = 0xF3 := by decide

/-- The lowest source with a push that happens, the highest with one that faults at its first byte, and one that faults at its second. -/
theorem test_witness_InterruptServiceEntersTheLowestPendingVector :
    let s (sp : Word) (req : Byte) := { S0 [] with ime := true, ifReg := req, ieReg := 0x1F, sp := sp }
    (∀ sp req, (s sp req).faulted = none ∧ (s sp req).inbox = [] ∧ (s sp req).stopped = false ∧ (s sp req).ime = true) ∧
    ((s 0x0000 0x1F).ifReg &&& (s 0x0000 0x1F).ieReg).getLsbD 0 = true ∧
    ((s 0xFE01 0x10).ifReg &&& (s 0xFE01 0x10).ieReg).getLsbD 4 = true ∧
    (∀ j < 4, ((s 0xFE01 0x10).ifReg &&& (s 0xFE01 0x10).ieReg).getLsbD j = false) ∧
    (s 0x0000 0x1F).accessible (0x0000 - 2) = true ∧ (s 0x0000 0x1F).accessible (0x0000 - 1) = true ∧
    (s 0xFE02 0x10).accessible (0xFE02 - 2) = false ∧
    (s 0xFE01 0x10).accessible (0xFE01 - 2) = true ∧ (s 0xFE01 0x10).accessible (0xFE01 - 1) = false :=
  ⟨fun _ _ => ⟨rfl, rfl, rfl, rfl⟩, by decide⟩

theorem test_witness_NoSecondServiceRightAfterAService :
    let s := { S0 [] with ime := true, ifReg := 0x1F, ieReg := 0x1F }
    (begun s).takesInterrupt = true ∧ (begun s).stopped = false ∧ ∃ t, step s = .next t :=
  ⟨by decide, by decide, _, rfl⟩

theorem test_witness_NoStepAfterAFault :
    { S0 [] with faulted := some (.unimplementedOpcode 0xD3 0x0150) }.faulted = some (.unimplementedOpcode 0xD3 0x0150) := by decide

theorem test_witness_StepFaultsOnlyAsTheSpecSays :
    (S0 [0xD3]).faulted = none ∧ (∃ f, step (S0 [0xD3]) = .fault f) ∧ (∃ f, step (S0 [0xFA, 0x00, 0x80]) = .fault f) ∧
    ∃ f, step { S0 [] with pc := 0xFF7F } = .fault f :=
  ⟨rfl, ⟨_, rfl⟩, ⟨_, rfl⟩, _, rfl⟩

theorem test_witness_IllegalOpcodesAreReported :
    (0xD3 : Byte) ∈ illegalBytes ∧ (0xFD : Byte) ∈ illegalBytes ∧ (0xFE : Byte) ∉ illegalBytes ∧
    Fetches (S0 [0xFD]) ∧ (atFetch (S0 [0xFD])).accessible (atFetch (S0 [0xFD])).pc = true ∧
    (atFetch (S0 [0xFD])).readValue (atFetch (S0 [0xFD])).pc = 0xFD := by
  unfold Fetches; decide

theorem test_witness_UnmappedFetchFollowsThePolicy :
    let s (p : UnmappedPolicy) := { S0 [] with pc := 0x9FFF, params := { unmappedPolicy := p } }
    Fetches (s .fatal) ∧ region (s .fatal).params (atFetch (s .fatal)).pc = .unmapped ∧
    Fetches (s .openBus) ∧ region (s .openBus).params (atFetch (s .openBus)).pc = .unmapped ∧
    (s .openBus).params.openBusByte = 0xFF := by
  unfold Fetches; decide

/-- A state with the invariant whose step happens. -/
theorem test_witness_StepKeepsTheInvariant : (S0 [0x3C]).Inv ∧ ∃ t, step (S0 [0x3C]) = .next t :=
  ⟨⟨by decide, by decide, by unfold ownedAddr; decide, by decide, by decide, by decide⟩, _, rfl⟩

/-- Reset is reachable, and so is the state after its first step, with a program promised at 0x0100. -/
theorem test_witness_FlagsLowNibbleIsZeroInEveryReachableState :
    ∃ t, step { State.resetWith {} with answers := { cartridge := [0xF1] }, inbox := [[.raise 0b11111]] } = .next t ∧ Reachable t := by
  have h : ∃ t, step { State.resetWith {} with answers := { cartridge := [0xF1] }, inbox := [[.raise 0b11111]] } = .next t := ⟨_, rfl⟩
  obtain ⟨t, ht⟩ := h
  exact ⟨t, ht, {}, _, _, .step (.refl _) ht⟩

theorem test_witness_InterruptRegistersChangeOnlyAsTheSpecSays :
    (∃ t, step { S0 [0xE2] with c := 0xFE } = .next t ∧ ∀ ev ∈ t.trace, ev.access = .write → ev.addr ≠ 0xFFFF) ∧
    (∃ t, step { S0 [] with ime := true, ifReg := 0xFF, ieReg := 0x10 } = .next t ∧ t.ifReg = 0xEF ∧
      ∀ ev ∈ t.trace, ev.access = .write → ev.addr ≠ 0xFF0F) ∧
    (∃ t, step { S0 [0x00] with inbox := [[.raise 0b10000]] } = .next t ∧ t.ifReg = 0x10 ∧
      ∀ ev ∈ t.trace, ev.access = .write → ev.addr ≠ 0xFF0F) :=
  ⟨⟨_, rfl, by decide⟩, ⟨_, rfl, by decide, by decide⟩, ⟨_, rfl, by decide, by decide⟩⟩

theorem test_witness_RamChangesOnlyByARecordedWrite :
    ∃ t, step { S0 [0x77] with h := 0xDF, l := 0xFF } = .next t ∧ ramKey (S0 []).params 0xFDFF ≠ none ∧
      ∀ ev ∈ t.trace, ev.access = .write → ramKey (S0 []).params ev.addr ≠ ramKey (S0 []).params 0xFDFF :=
  ⟨_, rfl, by decide, by decide⟩

theorem test_witness_ControlFlagsChangeOnlyByTheirInstructions :
    (∃ t, exec .di { S0 [] with ime := true, eiPending := true } = .next t ∧ t.ime ≠ true ∧ t.eiPending ≠ true) ∧
    (∃ t, exec .reti (S0 []) = .next t ∧ t.ime ≠ (S0 []).ime) ∧
    (∃ t, exec .ei (S0 []) = .next t ∧ t.eiPending ≠ (S0 []).eiPending) ∧
    (∃ t, exec .halt (S0 []) = .next t ∧ t.halted ≠ (S0 []).halted) ∧
    ∃ t, exec (.stop 0x00) (S0 []) = .next t ∧ t.stopped ≠ (S0 []).stopped :=
  ⟨⟨_, rfl, by decide⟩, ⟨_, rfl, by decide⟩, ⟨_, rfl, by decide⟩, ⟨_, rfl, by decide⟩, _, rfl, by decide⟩

theorem test_witness_StepReturnsAMultipleOfFourCycles : ∃ t, step (S0 [0xCD, 0x00, 0xC1]) = .next t := ⟨_, rfl⟩

theorem test_witness_ResetSetsEveryState :
    (List.replicate 8192 (0xA5 : Byte)).length = 8192 ∧ (List.replicate 127 (0x5A : Byte)).length = 127 :=
  ⟨List.length_replicate, List.length_replicate⟩

theorem test_witness_DecoderFollowsTheTable :
    ({} : Params).extRamFirst = 0xA000 ∧ ({} : Params).extRamLast = 0xBFFF ∧
    region {} 0x7FFF = .cartridge ∧ region {} 0x8000 = .unmapped ∧ region {} 0x9FFF = .unmapped ∧ region {} 0xA000 = .cartridge ∧
    region {} 0xBFFF = .cartridge ∧ region {} 0xC000 = .workRam ∧ region {} 0xDFFF = .workRam ∧ region {} 0xE000 = .echo ∧
    region {} 0xFDFF = .echo ∧ region {} 0xFE00 = .unmapped ∧ region {} 0xFF00 = .unmapped ∧ region {} 0xFF01 = .serialStub ∧
    region {} 0xFF02 = .serialStub ∧ region {} 0xFF03 = .unmapped ∧ region {} 0xFF0E = .unmapped ∧
    region {} 0xFF0F = .interruptFlag ∧ region {} 0xFF10 = .soundStub ∧ region {} 0xFF26 = .soundStub ∧
    region {} 0xFF27 = .unmapped ∧ region {} 0xFF3F = .unmapped ∧ region {} 0xFF40 = .video ∧ region {} 0xFF4A = .video ∧
    region {} 0xFF4B = .unmapped ∧ region {} 0xFF7F = .unmapped ∧ region {} 0xFF80 = .highRam ∧ region {} 0xFFFE = .highRam ∧
    region {} 0xFFFF = .interruptEnable := by decide

theorem test_witness_StorageReadsBackThroughEitherAlias :
    coreOwned {} 0xFDFF ∧ coreOwned {} 0xFF0F ∧ coreOwned {} 0xFFFF ∧
    ¬ sameCell {} 0xDE00 0xDDFF ∧ ¬ sameCell {} 0xFFFE 0xFFFF ∧ sameCell {} 0xDDFF 0xFDFF ∧
    (0x1E00 ≤ 0x1FFF ∧ 0x1FFF < 0x2000 ∧ (0xC000 : Word) ≠ BitVec.ofNat 16 (0xC000 + 0x1FFF)) := by
  unfold sameCell coreOwned; decide

theorem test_witness_SixteenBitStoreThenLoadGivesTheValue :
    coreOwned {} 0xDFFF ∧ coreOwned {} (0xDFFF + 1) ∧ coreOwned {} 0xFFFE ∧ coreOwned {} (0xFFFE + 1) := by
  unfold coreOwned; decide

theorem test_witness_CollaboratorWritesChangeNothingInTheCore :
    region {} 0x7FFF = .cartridge ∧ region {} 0xFF4A = .video ∧ region {} 0xFF02 = .serialStub ∧ region {} 0xFF26 = .soundStub ∧
    (S0 []).answers.promised .cartridge = [] ∧ ({ cartridge := [0x5A] } : Answers).promised .cartridge = [0x5A] := by decide

theorem test_witness_UnmappedAccessFollowsThePolicy :
    let s (p : UnmappedPolicy) := { S0 [] with pc := 0xFF7F, params := { unmappedPolicy := p } }
    region (s .fatal).params 0xFF7F = .unmapped ∧ (s .fatal).params.unmappedPolicy = .fatal ∧ (s .fatal).pc = 0xFF7F ∧
    region (s .openBus).params 0xFF7F = .unmapped ∧ (s .openBus).params.unmappedPolicy = .openBus := by decide

theorem test_witness_HostMovesReachOnlyTheirOwnState :
    { S0 [] with stopped := true, inbox := [[.raise 0b10000], []] }.inbox = [.raise 0b10000] :: [[]] ∧
    { S0 [] with stopped := true }.takeInbox.stopped = true ∧ (S0 []).inbox = [] := by decide

/-- The forms on the byte at HL: HL at the last mapped address, and at the first address of a hole (for the statements of the ALU,
the rotates, the shifts, the bit operations, the loads and stores at HL, and the prefix). -/
theorem test_witness_forms_at_hl :
    (atHl 0xFF 0xFF).accessible (atHl 0xFF 0xFF).hl = true ∧ (atHl 0xFF 0xFF).readValue (atHl 0xFF 0xFF).hl = 0x00 ∧
    (atHl 0xFE 0x00).accessible (atHl 0xFE 0x00).hl = false := by decide

theorem test_witness_DaaMakesDecimalSumsAndDifferences : IsBcd 0x99 ∧ IsBcd 0x00 ∧ IsBcd 0x90 ∧ ¬ IsBcd 0x9A := by
  unfold IsBcd; decide

theorem test_witness_PrefixRunsTheExtendedInstruction :
    (0xFF : Byte).toNat % 8 ≠ 6 ∧ (0xFE : Byte).toNat % 8 = 6 ∧ (atHl 0xFF 0xFF).accessible (atHl 0xFF 0xFF).hl = true := by decide

theorem test_witness_AccumulatorLoadsAndStores :
    (S0 []).accessible 0xFF80 = true ∧ (S0 []).accessible (BitVec.ofNat 16 (0xFF00 + (0xFF : Byte).toNat)) = true ∧
    (S0 []).accessible (BitVec.ofNat 16 (0xFF00 + (0x00 : Byte).toNat)) = false ∧
    { S0 [] with b := 0xBF, c := 0xFF }.accessible { S0 [] with b := 0xBF, c := 0xFF }.bc = true ∧
    { S0 [] with d := 0x80, e := 0x00 }.accessible { S0 [] with d := 0x80, e := 0x00 }.de = false := by decide

/-- A 16-bit access whose two bytes are mapped, one that faults at its first byte, and one that faults at its second (for the stores,
pushes, pops, calls and returns). -/
theorem test_witness_sixteen_bit_accesses :
    let s (sp : Word) := { S0 [] with sp := sp }
    (s 0x0001).accessible (0x0001 - 2) = true ∧ (s 0x0001).accessible (0x0001 - 2 + 1) = true ∧
    (s 0xFF01).accessible (0xFF01 - 2) = false ∧
    (s 0xFE01).accessible (0xFE01 - 2) = true ∧ (s 0xFE01).accessible (0xFE01 - 2 + 1) = false ∧
    (s 0xFFFF).accessible 0xFFFF = true ∧ (s 0xFFFF).accessible (0xFFFF + 1) = true ∧ (s 0xFF00).accessible 0xFF00 = false ∧
    (s 0xFF02).accessible 0xFF02 = true ∧ (s 0xFF02).accessible (0xFF02 + 1) = false := by decide

/-- Each condition holds in one state and fails in another (for the jumps, calls and returns). -/
theorem test_witness_conditions :
    let s (f : Byte) := { S0 [] with f := f }
    ccMeans .nz (s 0x70) ∧ ¬ ccMeans .nz (s 0x80) ∧ ccMeans .z (s 0x80) ∧ ¬ ccMeans .z (s 0x70) ∧
    ccMeans .nc (s 0xE0) ∧ ¬ ccMeans .nc (s 0x10) ∧ ccMeans .c (s 0x10) ∧ ¬ ccMeans .c (s 0xE0) := by
  unfold ccMeans; decide

theorem test_witness_SystemInstructionsSetTheControlFlags :
    (S0 []).params.eiDelayed = true ∧ (S0 []).ime = false ∧ { S0 [] with ime := true }.ime = true ∧
    { S0 [] with params := { eiDelayed := false } }.params.eiDelayed = false := by decide

end Sys2Proof.Tests
end

section
/-! PROOFS. A step reaches memory through the bus alone. Said once for every property P that a read, a write and an update of registers
keep: the instructions and the fetch keep it, and so does a step, up to the bit of IF that a service clears. -/

namespace Sys2Proof.Proofs

open Sys2Proof Sys2Proof.Machine Sys2Proof.Claims

/-- The states differ in registers, control flags, pc_start and the cycle count at most. -/
structure RegistersOnly (u w : State) : Prop where
  ifReg : w.ifReg = u.ifReg
  ieReg : w.ieReg = u.ieReg
  ram : w.ram = u.ram
  faulted : w.faulted = u.faulted
  params : w.params = u.params
  answers : w.answers = u.answers
  steps : w.steps = u.steps
  past : w.past = u.past
  inbox : w.inbox = u.inbox
  trace : w.trace = u.trace

/-- The shared meanings keep P: it does not speak of registers, and a read and a write keep it. -/
structure BusClosed (P : State → Prop) : Prop where
  registers : ∀ {u w : State}, P u → RegistersOnly u w → P w
  read : ∀ {u : State} (kind : Access) (a : Word), P u → P (u.afterRead kind a)
  write : ∀ {u : State} (a : Word) (v : Byte), P u → P (u.afterWrite a v)

/-- Where the outcome goes on, it goes on to a state with P. -/
def NextMeets (P : State → Prop) (o : Out) : Prop := ∀ t, o = .next t → P t

theorem NextMeets.ite {P : State → Prop} {c : Prop} [Decidable c] {x y : Out} (hx : NextMeets P x) (hy : NextMeets P y) :
    NextMeets P (if c then x else y) := by
  split
  · exact hx
  · exact hy

variable {P : State → Prop} {s t u w : State}

namespace BusClosed

variable (hP : BusClosed P)
include hP

theorem update (h : P u)
    (hr : RegistersOnly u w := by constructor <;> simp [State.shiftFlags, State.bitFlags]) : P w :=
  hP.registers h hr

/-! The shared operations. -/

theorem done {n : Nat} (h : P u) : NextMeets P (done n u) := fun _ ht => done_next ht ▸ hP.update h

theorem withRead {a : Word} {k : Byte → State → Out} (h : P u) (hk : ∀ v w, P w → NextMeets P (k v w)) :
    NextMeets P (withRead a u k) := fun t ht => hk _ _ (hP.read .read a h) t (withRead_next ht).2

theorem withWrite {a : Word} {v : Byte} {k : State → Out} (h : P u) (hk : ∀ w, P w → NextMeets P (k w)) :
    NextMeets P (withWrite a v u k) := fun t ht => hk _ (hP.write a v h) t (withWrite_next ht).2

theorem withFetch {k : Byte → State → Out} (h : P u) (hk : ∀ v w, P w → NextMeets P (k v w)) :
    NextMeets P (withFetch u k) :=
  fun t ht => hk _ _ (hP.update (hP.read .fetch u.pc h)) t (withFetch_next ht).2

theorem withWrite16 {a v : Word} {k : State → Out} (h : P u) (hk : ∀ w, P w → NextMeets P (k w)) :
    NextMeets P (withWrite16 a v u k) := hP.withWrite h fun _ hw => hP.withWrite hw hk

theorem withPush {v : Word} {k : State → Out} (h : P u) (hk : ∀ w, P w → NextMeets P (k w)) :
    NextMeets P (withPush v u k) := hP.withWrite16 (hP.update h) hk

theorem withPop {k : Word → State → Out} (h : P u) (hk : ∀ v w, P w → NextMeets P (k v w)) :
    NextMeets P (withPop u k) :=
  fun t ht => hk _ _ (hP.update (hP.read .read (u.sp + 1) (hP.read .read u.sp h))) t (withPop_next ht).2.2

/-! The instructions. -/

theorem meaning {i : Instr} {o : Out} (hm : Meaning i u o) (h : P u) : NextMeets P o := by
  cases hm with
  | illegal => exact fun _ ht => absurd ht raiseUnimplemented_ne_next
  | aluReg | aluImm | incReg | decReg | decimalAdjust | complementA | setCarry | complementCarry | rotateA | shiftReg | testBitReg
  | clearBitReg | raiseBitReg | loadReg | loadImm | loadPairImm | loadSpHl | loadHlSpDisp | incPair | decPair | addHl | addSpDisp
  | jumpAbs | jumpHl | jumpRel | nop | stop | halt | disableInterrupts => exact hP.done (hP.update h)
  | jumpAbsIf | jumpRelIf => exact .ite (hP.done (hP.update h)) (hP.done h)
  | enableInterrupts => exact .ite (.ite (hP.done h) (hP.done (hP.update h))) (hP.done (hP.update h))
  | aluMem | testBitMem | loadMem | loadPair | loadAbs | loadHighImm | loadHighC | loadMemInc | loadMemDec =>
    exact hP.withRead h fun _ _ hr => hP.done (hP.update hr)
  | storeMem | storeImm | storePair | storeAbs | storeHighImm | storeHighC | storeMemInc | storeMemDec =>
    exact hP.withWrite h fun _ hw => hP.done (hP.update hw)
  | incMem | decMem | shiftMem | clearBitMem | raiseBitMem =>
    exact hP.withRead h fun _ _ hr => hP.withWrite (hP.update hr) fun _ hw => hP.done hw
  | storeSp => exact hP.withWrite16 h fun _ hw => hP.done hw
  | pushPair | callAbs | restart => exact hP.withPush h fun _ hw => hP.done (hP.update hw)
  | popPair | returnPop | returnFromInterrupt => exact hP.withPop h fun _ _ hr => hP.done (hP.update hr)
  | callAbsIf => exact .ite (hP.withPush h fun _ hw => hP.done (hP.update hw)) (hP.done h)
  | returnPopIf => exact .ite (hP.withPop h fun _ _ hr => hP.done (hP.update hr)) (hP.done h)

theorem exec (i : Instr) (h : P u) : NextMeets P (exec i u) := hP.meaning (exec_meaning i u) h

theorem fetchExecute (h : P u) : NextMeets P (fetchExecute Machine.exec u) := by
  refine hP.withFetch (hP.update h) fun o w hw => ?_
  split
  · exact hP.exec _ hw
  · exact hP.withFetch hw fun _ _ => hP.exec _
  · exact hP.withFetch hw fun _ _ hw' => hP.withFetch hw' fun _ _ => hP.exec _
  · exact hP.withFetch hw fun _ _ => hP.exec _

/-! A whole step, from the state in which its phases begin. -/

/-- A step that services an interrupt keeps P up to the push, and clears the serviced bit of IF after it; any other step keeps P. -/
theorem step_cases (h : P (begun s)) (hs : step s = .next t) :
    (((begun s).stopped = false ∧ (begun s).takesInterrupt = true) ∧ ∃ v, P v ∧
      t = { v with
        pc := vectorOf (highest (begun s).pending)
        ifReg := v.ifReg &&& ~~~(1#8 <<< highest (begun s).pending)
        cycles := 20 }) ∨
    (¬ ((begun s).stopped = false ∧ (begun s).takesInterrupt = true) ∧ P t) := by
  have hrun : runPhases Machine.exec (begun s) = .next t := by
    cases hf : s.faulted with
    | none => exact step_of_running hf ▸ hs
    | some r => simp [step, hf] at hs
  cases hstop : (begun s).stopped with
  | true =>
    rw [runPhases_stopped _ hstop] at hrun
    exact .inr ⟨by simp, hP.done h t hrun⟩
  | false =>
    cases hi : (begun s).takesInterrupt with
    | true =>
      rw [runPhases_service _ hstop hi] at hrun
      obtain ⟨-, -, v, hv, ht⟩ := service_next hrun
      exact .inl ⟨⟨rfl, rfl⟩, v, hv ▸ hP.write _ _ (hP.write _ _ (hP.update h)), ht⟩
    | false =>
      refine .inr ⟨by simp, ?_⟩
      cases hh : (begun s).wake.halted with
      | true =>
        rw [runPhases_idle _ hstop hi hh] at hrun
        exact hP.done (hP.update h) t hrun
      | false =>
        rw [runPhases_fetch _ hstop hi hh] at hrun
        exact hP.fetchExecute (hP.update h) t hrun

end BusClosed

/-! What no recorded write names is kept (R64, R69, R76). -/

/-- The parameters stay as they were in s, and so does every byte of memory that no write in t's bus trace names. -/
def UnwrittenKept (s t : State) : Prop :=
  t.params = s.params ∧
  ∀ x, (∀ ev ∈ t.trace, ev.access = .write → ¬ sameCell s.params x ev.addr) → t.byteAt x = s.byteAt x

theorem unwrittenKept_refl (s : State) : UnwrittenKept s s := ⟨rfl, fun _ _ => rfl⟩

/-- A write adds itself to the trace, and changes no byte but the one it names. -/
theorem unwrittenKept_afterWrite (a : Word) (v : Byte) (h : UnwrittenKept s u) : UnwrittenKept s (u.afterWrite a v) := by
  obtain ⟨hp, hk⟩ := h
  refine ⟨(State.afterWrite_params ..).trans hp, fun x hx => ?_⟩
  rw [State.afterWrite_trace, List.forall_mem_append] at hx
  obtain ⟨hearlier, hthis⟩ := hx
  have hxa : ¬ sameCell u.params x a := hp ▸ hthis _ (List.mem_singleton_self _) rfl
  exact (byteAt_afterWrite_other u a x v hxa).trans (hk x hearlier)

theorem unwrittenKept_busClosed (s : State) : BusClosed (UnwrittenKept s) where
  registers := fun ⟨hp, hk⟩ hr =>
    ⟨hr.params.trans hp, fun x hx => (State.byteAt_congr hr.params hr.ram hr.ifReg hr.ieReg x).trans (hk x (hr.trace ▸ hx))⟩
  read := fun _ _ ⟨hp, hk⟩ => ⟨hp, fun x hx => hk x fun ev hev => hx ev (List.mem_append_left _ hev)⟩
  write := unwrittenKept_afterWrite

/-- Outside RAM an address alone names its byte. -/
theorem eq_of_sameCell_of_not_ram {p : Params} {x a : Word} (hx : ramKey p x = none) (h : sameCell p x a) : x = a := by
  rcases h with ⟨-, rfl | ⟨hk, he⟩⟩
  · rfl
  · exact absurd (he ▸ hx) hk

theorem UnwrittenKept.byteAt_eq_of_not_ram {x : Word} (h : UnwrittenKept s t) (hx : ramKey s.params x = none)
    (hw : ∀ ev ∈ t.trace, ev.access = .write → ev.addr ≠ x) : t.byteAt x = s.byteAt x :=
  h.2 x fun ev hev hwr hc => hw ev hev hwr (eq_of_sameCell_of_not_ram hx hc).symm

theorem UnwrittenKept.ifReg_eq (h : UnwrittenKept s t) (hw : ∀ ev ∈ t.trace, ev.access = .write → ev.addr ≠ 0xFF0F) :
    t.ifReg = s.ifReg := Option.some.inj (h.byteAt_eq_of_not_ram (x := 0xFF0F) rfl hw)

theorem UnwrittenKept.ieReg_eq (h : UnwrittenKept s t) (hw : ∀ ev ∈ t.trace, ev.access = .write → ev.addr ≠ 0xFFFF) :
    t.ieReg = s.ieReg := Option.some.inj (h.byteAt_eq_of_not_ram (x := 0xFFFF) rfl hw)

/-! What the host leaves of IF and IE before the step. -/

theorem foldl_apply_ieReg (moves : List HostMove) (s : State) : (moves.foldl HostMove.apply s).ieReg = s.ieReg := by
  induction moves generalizing s with
  | nil => rfl
  | cons m moves ih => exact (ih _).trans (by cases m <;> rfl)

/-- No host move reaches IE (R430). -/
theorem begun_ieReg (s : State) : (begun s).ieReg = s.ieReg := by
  change s.takeInbox.ieReg = s.ieReg
  cases h : s.inbox with
  | nil => rw [takeInbox_of_nil h]
  | cons moves rest => rw [takeInbox_of_cons h, foldl_apply_ieReg]

theorem begun_ifReg_of_silent (h : s.inbox = []) : (begun s).ifReg = s.ifReg := by
  simp [begun, takeInbox_of_nil h]

/-- A raised mask is OR-ed into IF (R412). -/
theorem begun_ifReg_of_raise {m : BitVec 5} {rest : List (List HostMove)} (h : s.inbox = [.raise m] :: rest) :
    (begun s).ifReg = s.ifReg ||| m.setWidth 8 := by
  simp [begun, takeInbox_of_cons h, HostMove.apply]

/-! What a step leaves of IF and IE (R32, R33). -/

theorem step_ieReg (h : step s = .next t) (hw : ∀ ev ∈ t.trace, ev.access = .write → ev.addr ≠ 0xFFFF) : t.ieReg = s.ieReg := by
  rw [← begun_ieReg s]
  rcases (unwrittenKept_busClosed _).step_cases (unwrittenKept_refl _) h with ⟨-, v, hv, rfl⟩ | ⟨-, hk⟩
  · exact hv.ieReg_eq hw
  · exact hk.ieReg_eq hw

theorem step_ifReg (h : step s = .next t) (hw : ∀ ev ∈ t.trace, ev.access = .write → ev.addr ≠ 0xFF0F) :
    t.ifReg =
      if (begun s).stopped = false ∧ (begun s).takesInterrupt = true then
        (begun s).ifReg &&& ~~~(1#8 <<< highest (begun s).pending)
      else (begun s).ifReg := by
  rcases (unwrittenKept_busClosed _).step_cases (unwrittenKept_refl _) h with ⟨hserve, v, hv, rfl⟩ | ⟨hserve, hk⟩
  · rw [if_pos hserve, ← hv.ifReg_eq hw]
  · rw [if_neg hserve, hk.ifReg_eq hw]

/-! IF and IE as plain storage. -/

theorem afterWrite_interruptEnable (s : State) (v : Byte) :
    s.afterWrite 0xFFFF v = { s with ieReg := v, trace := s.trace ++ [⟨.write, 0xFFFF, v⟩] } := rfl

theorem afterWrite_interruptFlag (s : State) (v : Byte) :
    s.afterWrite 0xFF0F v = { s with ifReg := v, trace := s.trace ++ [⟨.write, 0xFF0F, v⟩] } := rfl

/-- The mask of the five sources (R414). -/
theorem getLsbD_sourceMask (k : Nat) : (0x1F : Byte).getLsbD k = decide (k < 5) := by
  rcases Nat.lt_or_ge k 8 with hk | hk
  · revert k; decide
  · rw [BitVec.getLsbD_of_ge _ _ hk, decide_eq_false (by omega)]

theorem getLsbD_pending (s : State) (k : Nat) :
    s.pending.getLsbD k = true ↔ k < 5 ∧ s.ifReg.getLsbD k = true ∧ s.ieReg.getLsbD k = true := by
  rw [State.pending, BitVec.getLsbD_and, BitVec.getLsbD_and, getLsbD_sourceMask, Bool.and_eq_true, Bool.and_eq_true,
    decide_eq_true_eq]
  exact and_comm

/-- Settles O21: IF and IE are bytes of memory that no recorded write names, the host's moves reach IF alone, and a service clears its
bit after the push. -/
theorem interruptRegistersChangeOnlyAsTheSpecSays : Obligations.InterruptRegistersChangeOnlyAsTheSpecSays :=
  ⟨fun _ _ h => ⟨step_ieReg h, step_ifReg h⟩, fun _ => begun_ifReg_of_silent, fun _ _ _ => begun_ifReg_of_raise,
    fun s v k => ⟨rfl, afterWrite_interruptEnable s v, rfl, afterWrite_interruptFlag s v, getLsbD_pending s k⟩⟩

end Sys2Proof.Proofs
end

section
/-! PROOFS. The core's own storage: a byte it stores is always there to read, with no promise used up, and a write is seen under every
address of its RAM byte. -/

namespace Sys2Proof.Proofs

open Sys2Proof Sys2Proof.Machine Sys2Proof.Claims

variable {s : State} {p : Params} {a x : Word}

/-! What the core stores at an address. -/

theorem exists_byteAt_of_coreOwned (h : coreOwned s.params a) : ∃ w, s.byteAt a = some w := by
  rcases h with hram | hif | hie
  · obtain ⟨n, hn⟩ := Option.ne_none_iff_exists'.mp hram
    exact ⟨_, byteAt_of_ramKey hn⟩
  · exact ⟨s.ifReg, region_interruptFlag.mp hif ▸ rfl⟩
  · exact ⟨s.ieReg, region_interruptEnable.mp hie ▸ rfl⟩

/-- Every byte the core stores is outside the collaborators' windows, so a write there withdraws no promise (R75). -/
theorem withdrawn_of_coreOwned (q : Answers) (h : coreOwned p a) : q.withdrawn (region p a) = q := by
  unfold coreOwned ramKey at h
  cases hr : region p a with
  | cartridge | video => simp [hr] at h
  | workRam | echo | serialStub | interruptFlag | soundStub | highRam | interruptEnable | unmapped => rfl

/-- A byte of RAM reads as written under every address that names it (R65). -/
theorem byteAt_afterWrite_of_ramKey {n : Nat} (v : Byte) (ha : ramKey s.params a = some n) (hx : ramKey s.params x = some n) :
    (s.afterWrite a v).byteAt x = some v := by
  rw [byteAt_of_ramKey (n := n) (by rw [State.afterWrite_params, hx]), afterWrite_eq]
  simp [ha]

/-! Work RAM and its echo (R64, R65). -/

theorem ramKey_workRam {i : Nat} (hi : i < 0x2000) : ramKey p (BitVec.ofNat 16 (0xC000 + i)) = some (0xC000 + i) := by
  have ha : (BitVec.ofNat 16 (0xC000 + i)).toNat = 0xC000 + i := Nat.mod_eq_of_lt (by omega)
  rw [ramKey_eq, ha, if_pos (by omega)]

theorem ramKey_echo {i : Nat} (hi : i < 0x1E00) : ramKey p (BitVec.ofNat 16 (0xE000 + i)) = some (0xC000 + i) := by
  have ha : (BitVec.ofNat 16 (0xE000 + i)).toNat = 0xE000 + i := Nat.mod_eq_of_lt (by omega)
  rw [ramKey_eq, ha, if_neg (by omega), if_pos (by omega)]
  exact congrArg some (by omega)

/-- The echo reaches no byte from 0xDE00 on: such a byte has one address alone. -/
theorem toNat_of_ramKey_unechoed {n : Nat} (hn : 0xDE00 ≤ n) (h : ramKey p x = some n) : x.toNat = n := by
  rw [ramKey_eq] at h
  split_ifs at h <;> have := Option.some.inj h <;> omega

theorem eq_of_sameCell_unechoed {i : Nat} (hlow : 0x1E00 ≤ i) (hhigh : i < 0x2000)
    (h : sameCell p x (BitVec.ofNat 16 (0xC000 + i))) : x = BitVec.ofNat 16 (0xC000 + i) := by
  obtain ⟨-, hx | ⟨-, hx⟩⟩ := h
  · exact hx
  · rw [ramKey_workRam hhigh] at hx
    rw [← toNat_of_ramKey_unechoed (by omega) hx, BitVec.ofNat_toNat, BitVec.setWidth_eq]

/-- Settles O27: the core's storage always has a byte to read, what a write does is afterWrite_eq, and the two aliases of a RAM byte
have one storage key. -/
theorem storageReadsBackThroughEitherAlias : Obligations.StorageReadsBackThroughEitherAlias := by
  intro s a x v
  refine ⟨fun ho => ?readsBack, ⟨?frame, fun ho => ?promises⟩, byteAt_afterWrite_other s a x v, fun i hi => ?echo,
    fun i hlow hhigh hx => ?unechoed⟩
  case readsBack =>
    have hself : (s.afterWrite a v).byteAt a = some v := byteAt_afterWrite_self s a v ho
    obtain ⟨w, hw⟩ := exists_byteAt_of_coreOwned ho
    exact ⟨hself, readValue_of_byteAt hself, w, hw, readValue_of_byteAt hw, fun kind => afterRead_of_byteAt kind hw⟩
  case frame => rw [afterWrite_eq]
  case promises => exact (State.afterWrite_answers ..).trans (withdrawn_of_coreOwned _ ho)
  case echo =>
    have hprimary : ramKey s.params (BitVec.ofNat 16 (0xC000 + i)) = some (0xC000 + i) := ramKey_workRam (by omega)
    exact ⟨byteAt_afterWrite_of_ramKey v (ramKey_echo hi) hprimary, byteAt_afterWrite_of_ramKey v hprimary (ramKey_echo hi)⟩
  case unechoed =>
    exact byteAt_afterWrite_other s _ x v fun hc => hx (eq_of_sameCell_unechoed hlow hhigh hc)

end Sys2Proof.Proofs
end

section
/-! PROOFS. The decoder by the entry of the first byte (R114): how many bytes it takes, and what it answers on them. The extended table
by the fields of its byte (R111). -/

namespace Sys2Proof.Proofs

open Sys2Proof Sys2Proof.Machine Sys2Proof.Claims

variable {o : Byte} {i : Instr} {bytes : List Byte}

/-! One equation for each kind of entry of the base table. -/

theorem lengthOf_of_op (h : baseEntry o = .op i) : lengthOf o = 1 := by rw [lengthOf, h]

theorem lengthOf_of_n8 {mk : Byte → Instr} (h : baseEntry o = .n8 mk) : lengthOf o = 2 := by rw [lengthOf, h]

theorem lengthOf_of_n16 {mk : Word → Instr} (h : baseEntry o = .n16 mk) : lengthOf o = 3 := by rw [lengthOf, h]

theorem lengthOf_of_extended (h : baseEntry o = .extended) : lengthOf o = 2 := by rw [lengthOf, h]

theorem decode_of_op (h : baseEntry o = .op i) (rest : List Byte) : decode (o :: rest) = .ok (i, rest) := by
  simp only [decode, h]

theorem decode_of_n8 {mk : Byte → Instr} (h : baseEntry o = .n8 mk) (n : Byte) (rest : List Byte) :
    decode (o :: n :: rest) = .ok (mk n, rest) := by
  simp only [decode, h]

theorem decode_of_n16 {mk : Word → Instr} (h : baseEntry o = .n16 mk) (lo hi : Byte) (rest : List Byte) :
    decode (o :: lo :: hi :: rest) = .ok (mk (wordOf hi lo), rest) := by
  simp only [decode, h]

theorem decode_of_extended (h : baseEntry o = .extended) (p : Byte) (rest : List Byte) :
    decode (o :: p :: rest) = .ok (extEntry p, rest) := by
  simp only [decode, h]

/-! The length (R114). -/

/-- The opcodes with a 16-bit immediate (R114). -/
def threeByteOpcodes : List Byte :=
  [0x01, 0x11, 0x21, 0x31, 0x08, 0xC3, 0xC2, 0xCA, 0xD2, 0xDA, 0xCD, 0xC4, 0xCC, 0xD4, 0xDC, 0xEA, 0xFA]

/-- The opcodes with an immediate byte (R114). -/
def twoByteOpcodes : List Byte :=
  [0x06, 0x0E, 0x16, 0x1E, 0x26, 0x2E, 0x3E, 0x36, 0xC6, 0xCE, 0xD6, 0xDE, 0xE6, 0xEE, 0xF6, 0xFE,
    0x18, 0x20, 0x28, 0x30, 0x38, 0xE0, 0xF0, 0xE8, 0xF8, 0x10]

theorem lengthOf_eq : ∀ o : Byte,
    lengthOf o = if o = 0xCB then 2 else if o ∈ threeByteOpcodes then 3 else if o ∈ twoByteOpcodes then 2 else 1 := by
  decide +kernel

/-- Where the first byte's length is there, the decoder takes exactly that many bytes. -/
theorem decode_of_length_le (hlen : lengthOf o ≤ (o :: bytes).length) :
    ∃ i, decode (o :: bytes) = .ok (i, (o :: bytes).drop (lengthOf o)) := by
  cases h : baseEntry o with
  | op i =>
    rw [lengthOf_of_op h]
    exact ⟨i, decode_of_op h bytes⟩
  | n8 mk =>
    rw [lengthOf_of_n8 h] at hlen ⊢
    obtain _ | ⟨n, rest⟩ := bytes
    · simp at hlen
    · exact ⟨mk n, decode_of_n8 h n rest⟩
  | n16 mk =>
    rw [lengthOf_of_n16 h] at hlen ⊢
    obtain _ | ⟨lo, _ | ⟨hi, rest⟩⟩ := bytes
    · simp at hlen
    · simp at hlen
    · exact ⟨mk (wordOf hi lo), decode_of_n16 h lo hi rest⟩
  | extended =>
    rw [lengthOf_of_extended h] at hlen ⊢
    obtain _ | ⟨p, rest⟩ := bytes
    · simp at hlen
    · exact ⟨extEntry p, decode_of_extended h p rest⟩

/-- Fewer bytes than the first byte's length are refused. -/
theorem decode_of_length_lt (hlen : (o :: bytes).length < lengthOf o) : decode (o :: bytes) = .error (.truncated o) := by
  cases h : baseEntry o with
  | op i => simp [lengthOf_of_op h] at hlen
  | n8 mk =>
    obtain rfl : bytes = [] := by simpa [lengthOf_of_n8 h] using hlen
    simp only [decode, h]
  | n16 mk =>
    rw [lengthOf_of_n16 h] at hlen
    obtain _ | ⟨lo, _ | ⟨hi, rest⟩⟩ := bytes
    · simp only [decode, h]
    · simp only [decode, h]
    · exact absurd hlen (by simp)
  | extended =>
    obtain rfl : bytes = [] := by simpa [lengthOf_of_extended h] using hlen
    simp only [decode, h]

/-! The bytes with no table entry (R112, R150). -/

theorem baseEntry_of_illegal (h : o ∈ illegalBytes) : baseEntry o = .op (.illegal o) := by
  unfold illegalBytes at h
  fin_cases h <;> rfl

theorem exec_illegal (o : Byte) (s : State) : exec (.illegal o) s = raiseUnimplemented o s := rfl

/-- Settles O3: the entry of the first byte fixes the length, and the decoder's answer by that entry; the table of lengths is R114's
over the 256 bytes. -/
theorem lengthIsDecidedByTheFirstByte : Obligations.LengthIsDecidedByTheFirstByte := fun o bytes =>
  ⟨lengthOf_eq o, decode_of_length_le, decode_of_length_lt,
    fun h => ⟨decode_of_op (baseEntry_of_illegal h) bytes, exec_illegal o⟩⟩

/-! The extended table's cells by x, y and z (R111). -/

theorem extEntry_shiftReg (op : ShiftOp) (r : Reg8) : extEntry (shiftCode op + r8Code r) = Forms.shiftReg op r := by
  cases op <;> cases r <;> rfl

theorem extEntry_shiftMem (op : ShiftOp) : extEntry (shiftCode op + 6) = Forms.shiftMem op := by
  cases op <;> rfl

theorem extEntry_testBitReg (i : Fin 8) (r : Reg8) :
    extEntry (0x40 + BitVec.ofNat 8 (8 * i.val) + r8Code r) = Forms.testBitReg i r := by
  revert i; cases r <;> decide

theorem extEntry_testBitMem : ∀ i : Fin 8, extEntry (0x40 + BitVec.ofNat 8 (8 * i.val) + 6) = Forms.testBitMem i := by
  decide

theorem extEntry_clearBitReg (i : Fin 8) (r : Reg8) :
    extEntry (0x80 + BitVec.ofNat 8 (8 * i.val) + r8Code r) = Forms.clearBitReg i r := by
  revert i; cases r <;> decide

theorem extEntry_clearBitMem : ∀ i : Fin 8, extEntry (0x80 + BitVec.ofNat 8 (8 * i.val) + 6) = Forms.clearBitMem i := by
  decide

theorem extEntry_raiseBitReg (i : Fin 8) (r : Reg8) :
    extEntry (0xC0 + BitVec.ofNat 8 (8 * i.val) + r8Code r) = Forms.raiseBitReg i r := by
  revert i; cases r <;> decide

theorem extEntry_raiseBitMem : ∀ i : Fin 8, extEntry (0xC0 + BitVec.ofNat 8 (8 * i.val) + 6) = Forms.raiseBitMem i := by
  decide

/-- 0xCB and an extended byte are the bytes of the instruction in that byte's cell (R149). -/
theorem encoded_of_extEntry {p : Byte} (h : extEntry p = i) : Encoded i [0xCB, p] :=
  h ▸ ⟨(extEntry_encodes p).2, decode_of_extended rfl p⟩

/-- Settles O4: the extended table's cell at each byte's fields, and 0xCB before the byte. -/
theorem extendedTableFollowsItsFields : Obligations.ExtendedTableFollowsItsFields :=
  ⟨fun op r i =>
    ⟨encoded_of_extEntry (extEntry_shiftReg op r), encoded_of_extEntry (extEntry_shiftMem op),
      encoded_of_extEntry (extEntry_testBitReg i r), encoded_of_extEntry (extEntry_testBitMem i),
      encoded_of_extEntry (extEntry_clearBitReg i r), encoded_of_extEntry (extEntry_clearBitMem i),
      encoded_of_extEntry (extEntry_raiseBitReg i r), encoded_of_extEntry (extEntry_raiseBitMem i)⟩,
    fun p => ⟨extEntry p, decode_of_extended rfl p [], (extEntry_encodes p).1⟩⟩

end Sys2Proof.Proofs
end

section
/-! PROOFS. A step by the phase that ends it (R141 to R145): stopped, halted with nothing pending, or the fetch; and the fetch of a byte
with no table entry (R150). -/

namespace Sys2Proof.Proofs

open Sys2Proof Sys2Proof.Machine Sys2Proof.Claims

variable {s : State} {o : Byte} {i : Instr} {bytes rest : List Byte}

/-! The phases from the state in which a step begins. -/

/-- Without a host move a step is its phases from s with the outputs cleared (R430). -/
theorem step_of_silent (hrunning : s.faulted = none) (hsilent : s.inbox = []) : step s = runPhases exec s.beginStep := by
  rw [step_of_running hrunning, takeInbox_of_nil hsilent]

/-- Settles O7: phase 0 ends a stopped step. -/
theorem stoppedStepChangesNothing : Obligations.StoppedStepChangesNothing := by
  intro s hrunning hsilent hstopped
  calc step s = runPhases exec s.beginStep := step_of_silent hrunning hsilent
    _ = done 4 s.beginStep := runPhases_stopped exec hstopped

/-- No interrupt is serviced where none is pending (R142). -/
theorem takesInterrupt_of_none (h : s.pending = 0) : s.takesInterrupt = false := by simp [State.takesInterrupt, h]

/-- Settles O8: with nothing pending phase 1 neither services nor wakes, and phase 2 ends a halted step. -/
theorem haltedStepWithNothingPendingIdles : Obligations.HaltedStepWithNothingPendingIdles := by
  intro s hrunning hsilent hstopped hhalted hpending
  have hnone : s.beginStep.pending = 0 := hpending
  have hwake : s.beginStep.wake = s.beginStep := wake_of_none hnone
  have hstay : s.beginStep.wake.halted = true := by rw [hwake]; exact hhalted
  calc step s = runPhases exec s.beginStep := step_of_silent hrunning hsilent
    _ = done 4 s.beginStep.wake := runPhases_idle exec hstopped (takesInterrupt_of_none hnone) hstay
    _ = done 4 s.beginStep := by rw [hwake]

/-- Where no earlier phase ends it, a step is phase 4. -/
theorem step_of_fetches (h : Fetches s) : step s = fetchExecute exec (atFetch s) := by
  obtain ⟨hrunning, hstopped, hquiet, hawake⟩ := h
  exact (step_of_running hrunning).trans (runPhases_fetch exec hstopped hquiet hawake)

/-- An opcode that is the whole instruction runs with PC past it and pc_start at it (R145, R146). -/
theorem fetchExecute_of_op (run : Instr → State → Out) (ha : s.accessible s.pc = true)
    (hi : baseEntry (s.readValue s.pc) = .op i) :
    fetchExecute run s = run i { s.afterRead .fetch s.pc with pcStart := s.pc, pc := s.pc + 1 } := by
  refine (withFetch_ok (s := { s with pcStart := s.pc }) ha).trans ?_
  have hentry : baseEntry (State.readValue { s with pcStart := s.pc } s.pc) = .op i := hi
  rw [hentry]
  rfl

/-! The bytes with no table entry (R112). -/

theorem wf_illegal_iff : (Instr.illegal o).wf = true ↔ o ∈ illegalBytes := List.contains_iff_mem

/-- The decoder answers well-formed instructions only. -/
theorem wf_of_decode (h : decode bytes = .ok (i, rest)) : i.wf = true := by
  obtain _ | ⟨o, bytes⟩ := bytes
  · cases h
  have hentry := baseEntry_encodes o
  split at hentry
  next j hop =>
    cases (decode_of_op hop bytes).symm.trans h
    exact hentry.1
  next mk hn8 =>
    obtain _ | ⟨n, bytes⟩ := bytes
    · simp [decode, hn8] at h
    · cases (decode_of_n8 hn8 n bytes).symm.trans h
      exact (hentry n).1
  next mk hn16 =>
    obtain _ | ⟨lo, _ | ⟨hi, bytes⟩⟩ := bytes
    · simp [decode, hn16] at h
    · simp [decode, hn16] at h
    · cases (decode_of_n16 hn16 lo hi bytes).symm.trans h
      exact (hentry (wordOf hi lo)).1
  next hext =>
    obtain _ | ⟨p, bytes⟩ := bytes
    · simp [decode, hext] at h
    · cases (decode_of_extended hext p bytes).symm.trans h
      exact (extEntry_encodes p).1

/-- Settles O16: the decoder answers no ill-formed instruction, so no illegal one but the eleven; and the entry of each of the eleven is
the instruction that raises the fault. -/
theorem illegalOpcodesAreReported : Obligations.IllegalOpcodesAreReported := by
  refine ⟨fun o rest => ⟨fun h => wf_illegal_iff.mp (wf_of_decode h), fun h => decode_of_op (baseEntry_of_illegal h) rest⟩,
    exec_illegal, ?_⟩
  rintro s _ hillegal hfetches ha rfl
  rw [step_of_fetches hfetches, fetchExecute_of_op exec ha (baseEntry_of_illegal hillegal), exec_illegal]
  rfl

end Sys2Proof.Proofs
end

section
/-! PROOFS. What an instruction leaves, by the shape of its meaning: one rule for each word of the statements, from the end of the
instruction, a read at HL, or a read and a write there. -/

namespace Sys2Proof.Proofs

open Sys2Proof Sys2Proof.Machine Sys2Proof.Claims

variable {i : Instr} {s t : State} {n : Nat} {P : State → Prop}

theorem flag_set : true = true ↔ True := iff_true_intro rfl

theorem flag_clear : false = true ↔ False := iff_false_intro Bool.false_ne_true

/-- F as a byte of four flags reads as those flags (R209). -/
theorem flagsAre_of_f {z n h c : Bool} {Z N H C : Prop} (hf : t.f = flagsByte z n h c) (hz : z = true ↔ Z)
    (hn : n = true ↔ N) (hh : h = true ↔ H) (hc : c = true ↔ C) : FlagsAre t Z N H C := by
  simp only [FlagsAre, State.flagZ, State.flagN, State.flagH, State.flagC, hf, flagsByte_z, flagsByte_n, flagsByte_h,
    flagsByte_c, flagsByte_low, and_true]
  exact ⟨hz, hn, hh, hc⟩

/-- An instruction whose first access is a read faults where that address is unmapped (R423). -/
theorem faultsAt_of_withRead {a : Word} {k : Byte → State → Out} (hx : exec i s = withRead a s k) : FaultsAt i s a .read :=
  fun h => hx.trans (withRead_no h)

theorem changesAF_of_done {a' f' : Byte} (hx : exec i s = done n { s with a := a', f := f' })
    (hP : ∀ t : State, t.a = a' → t.f = f' → P t) : ChangesAF i s n P :=
  ⟨_, hx, hP _ rfl rfl, fun _ => rfl, rfl⟩

theorem readsHlChangesAF_of_withRead {Q : Byte → State → Prop} {k : Byte → State → Out} {a' f' : Byte}
    (hx : exec i s = withRead s.hl s k)
    (hk : k (s.readValue s.hl) (s.afterRead .read s.hl) = done n { s.afterRead .read s.hl with a := a', f := f' })
    (hQ : ∀ t : State, t.a = a' → t.f = f' → Q (s.readValue s.hl) t) : ReadsHlChangesAF i s n Q :=
  ⟨fun ha => ⟨_, hx.trans ((withRead_ok ha).trans hk), hQ _ rfl rfl, fun _ => rfl, rfl⟩, faultsAt_of_withRead hx⟩

/-- A read at HL, then a write of w of the byte there: the write is accessible because the read was. -/
theorem rewritesHl_of_withRead {Q : Byte → State → Prop} {k : Byte → State → Out} {w : Byte → Byte} {f' : Byte}
    (hx : exec i s = withRead s.hl s k)
    (hk : k (s.readValue s.hl) (s.afterRead .read s.hl) =
      withWrite s.hl (w (s.readValue s.hl)) { s.afterRead .read s.hl with f := f' } (done n))
    (hQ : ∀ t : State, t.f = f' → Q (s.readValue s.hl) t) : RewritesHl i s n w Q := by
  refine ⟨fun ha => ⟨_, hx.trans ((withRead_ok ha).trans (hk.trans (withWrite_ok ha))), hQ _ ?_, ?_, ?_⟩,
    faultsAt_of_withRead hx⟩
  · exact State.afterWrite_f ..
  · exact stored_afterWrite { s.afterRead .read s.hl with f := f' } s.hl _
  · rw [afterWrite_eq]
    simp

/-- An instruction that writes a register and the flags. -/
theorem exists_next_of_setReg_setFlags {r : Reg8} {x : Byte} {m : Nat} {z n' h c : Bool}
    (hx : exec i s = done n ((s.setReg r x).setFlags z n' h c)) (hm : x.toNat = m)
    (hP : ∀ t : State, t.f = flagsByte z n' h c → P t) :
    ∃ t, exec i s = .next t ∧ (t.reg r).toNat = m ∧ P t ∧ SameMemory s t ∧
      t = { s.setReg r (t.reg r) with f := t.f, cycles := n } := by
  have hr : State.reg { (s.setReg r x).setFlags z n' h c with cycles := n } r = x := by cases r <;> rfl
  exact ⟨_, hx, by rw [hr, hm], hP _ rfl, State.setReg_byteAt s r x, by rw [hr]; rfl⟩

end Sys2Proof.Proofs
end

section
/-! PROOFS. The base table's cells of the 8-bit ALU by their fields (R110): y names the operation, z the operand. -/

namespace Sys2Proof.Proofs

open Sys2Proof Sys2Proof.Machine Sys2Proof.Claims

variable {o : Byte} {i : Instr}

theorem encoded_of_baseEntry_op (h : baseEntry o = .op i) : Encoded i [o] := by
  have hentry := baseEntry_encodes o
  rw [h] at hentry
  exact ⟨hentry.2, decode_of_op h⟩

theorem encoded_of_baseEntry_n8 {mk : Byte → Instr} (h : baseEntry o = .n8 mk) (n : Byte) : Encoded (mk n) [o, n] := by
  have hentry := baseEntry_encodes o
  rw [h] at hentry
  exact ⟨(hentry n).2, decode_of_n8 h n⟩

/-- The opcode of an ALU operation, without its operand field (R110). -/
def aluCode : AluOp → Byte
  | .add => 0x80
  | .adc => 0x88
  | .sub => 0x90
  | .sbc => 0x98
  | .and => 0xA0
  | .xor => 0xA8
  | .or => 0xB0
  | .cp => 0xB8

theorem encoded_aluReg (op : AluOp) (r : Reg8) : Encoded (Forms.aluReg op r) [aluCode op + r8Code r] :=
  encoded_of_baseEntry_op (by cases op <;> cases r <;> rfl)

theorem encoded_aluMem (op : AluOp) : Encoded (Forms.aluMem op) [aluCode op + 6] :=
  encoded_of_baseEntry_op (by cases op <;> rfl)

theorem encoded_aluImm (op : AluOp) (n : Byte) : Encoded (Forms.aluImm op n) [aluCode op + 0x46, n] :=
  encoded_of_baseEntry_n8 (by cases op <;> rfl) n

theorem encoded_incReg (r : Reg8) : Encoded (Forms.incReg r) [0x04 + 8 * r8Code r] :=
  encoded_of_baseEntry_op (by cases r <;> rfl)

theorem encoded_decReg (r : Reg8) : Encoded (Forms.decReg r) [0x05 + 8 * r8Code r] :=
  encoded_of_baseEntry_op (by cases r <;> rfl)

end Sys2Proof.Proofs
end

section
/-! PROOFS. The 8-bit ALU (spec/41_alu8.md): each operation's tuple in integers, then every form of every ALU operation at
once, INC and DEC, DAA, and the complement and carry instructions. -/

namespace Sys2Proof.Proofs

open Sys2Proof Sys2Proof.Machine Sys2Proof.Claims

variable {s t : State} {a v : Byte} {cin : Bool}

theorem beq_zero_iff (r : Byte) : (r == 0) = true ↔ r.toNat = 0 := by
  rw [beq_iff_eq, ← BitVec.toNat_inj]; rfl

/-! The tuples of R170 to R174. -/

/-- F holds the flags of an ALU tuple (R209). -/
def HoldsFlags (t : State) (out : AluOut) : Prop := t.f = flagsByte out.z out.n out.h out.c

theorem addResult_of_add8 (ha : t.a = (add8 a v cin).val) (hf : HoldsFlags t (add8 a v cin)) : AddResult a v cin t := by
  refine ⟨by rw [ha, toNat_add8], flagsAre_of_f hf ?_ ?_ ?_ ?_⟩
  · rw [ha]; exact beq_iff_eq
  · exact flag_clear
  · exact decide_eq_true_iff
  · exact decide_eq_true_iff

theorem subFlags_of_sub8 (hf : HoldsFlags t (sub8 a v cin)) : SubFlags a v cin t := by
  refine flagsAre_of_f hf ?_ ?_ ?_ ?_
  · have hval : ((sub8 a v cin).val.toNat : Int) = difference a v cin % 256 := toNat_sub8 a v cin
    rw [← hval, Int.natCast_eq_zero]
    exact beq_zero_iff _
  · exact flag_set
  · exact decide_eq_true_iff
  · exact decide_eq_true_iff

theorem subResult_of_sub8 (ha : t.a = (sub8 a v cin).val) (hf : HoldsFlags t (sub8 a v cin)) : SubResult a v cin t :=
  ⟨by rw [ha]; exact toNat_sub8 a v cin, subFlags_of_sub8 hf⟩

theorem logicResult_of_flags {r : Byte} {h : Bool} {H : Prop} (ha : t.a = r) (hf : t.f = flagsByte (r == 0) false h false)
    (hh : h = true ↔ H) : LogicResult r H t :=
  ⟨ha, flagsAre_of_f hf beq_iff_eq flag_clear hh flag_clear⟩

/-! Every form of every ALU operation (R177 to R200). -/

/-- What the statements say of A and F after an ALU operation on s with operand v. -/
def AluResult (op : AluOp) (s : State) (v : Byte) : State → Prop :=
  match op with
  | .add => AddResult s.a v false
  | .adc => AddResult s.a v s.flagC
  | .sub => SubResult s.a v false
  | .sbc => SubResult s.a v s.flagC
  | .and => LogicResult (s.a &&& v) True
  | .xor => LogicResult (s.a ^^^ v) False
  | .or => LogicResult (s.a ||| v) False
  | .cp => fun t => t.a = s.a ∧ SubFlags s.a v false t

theorem aluResult_of_alu (op : AluOp) (ha : t.a = (s.alu op v).a) (hf : t.f = (s.alu op v).f) : AluResult op s v t := by
  cases op with
  | add => exact addResult_of_add8 ha hf
  | adc => exact addResult_of_add8 ha hf
  | sub => exact subResult_of_sub8 ha hf
  | sbc => exact subResult_of_sub8 ha hf
  | and => exact logicResult_of_flags ha hf flag_set
  | xor => exact logicResult_of_flags ha hf flag_clear
  | or => exact logicResult_of_flags ha hf flag_clear
  | cp => exact ⟨ha, subFlags_of_sub8 hf⟩

theorem alu_eq (op : AluOp) (s : State) (v : Byte) :
    s.alu op v = { s with a := (s.alu op v).a, f := (s.alu op v).f } := by cases op <;> rfl

/-- A read leaves A and F, and so what an ALU operation makes of them. -/
theorem aluResult_afterRead (op : AluOp) (s : State) (kind : Access) (x : Word) (v : Byte) :
    AluResult op (s.afterRead kind x) v = AluResult op s v := by cases op <;> rfl

theorem aluReg_changesAF (op : AluOp) (s : State) (r : Reg8) : ChangesAF (Forms.aluReg op r) s 4 (AluResult op s (s.reg r)) :=
  changesAF_of_done ((Laws.exec_aluReg op r s).trans (congrArg (done 4) (alu_eq op s _))) fun _ => aluResult_of_alu op

theorem aluImm_changesAF (op : AluOp) (s : State) (n : Byte) : ChangesAF (Forms.aluImm op n) s 8 (AluResult op s n) :=
  changesAF_of_done ((Laws.exec_aluImm op n s).trans (congrArg (done 8) (alu_eq op s n))) fun _ => aluResult_of_alu op

theorem aluMem_readsHlChangesAF (op : AluOp) (s : State) : ReadsHlChangesAF (Forms.aluMem op) s 8 (AluResult op s) :=
  readsHlChangesAF_of_withRead (Laws.exec_aluMem op s) (congrArg (done 8) (alu_eq op _ _)) fun _ ha hf =>
    aluResult_afterRead op s _ _ _ ▸ aluResult_of_alu op ha hf

/-- Settles O32: the forms of ADD and ADC are cells of the ALU block, and their results are add8's in integers. -/
theorem addAndAdcComputeTheSum : Obligations.AddAndAdcComputeTheSum := fun s r n =>
  ⟨encoded_aluReg .add r, encoded_aluMem .add, encoded_aluImm .add n,
    encoded_aluReg .adc r, encoded_aluMem .adc, encoded_aluImm .adc n,
    aluReg_changesAF .add s r, aluMem_readsHlChangesAF .add s, aluImm_changesAF .add s n,
    aluReg_changesAF .adc s r, aluMem_readsHlChangesAF .adc s, aluImm_changesAF .adc s n⟩

/-- Settles O33: the forms of SUB and SBC are cells of the ALU block, and their results are sub8's in integers. -/
theorem subAndSbcComputeTheDifference : Obligations.SubAndSbcComputeTheDifference := fun s r n =>
  ⟨encoded_aluReg .sub r, encoded_aluMem .sub, encoded_aluImm .sub n,
    encoded_aluReg .sbc r, encoded_aluMem .sbc, encoded_aluImm .sbc n,
    aluReg_changesAF .sub s r, aluMem_readsHlChangesAF .sub s, aluImm_changesAF .sub s n,
    aluReg_changesAF .sbc s r, aluMem_readsHlChangesAF .sbc s, aluImm_changesAF .sbc s n⟩

/-- Settles O34: CP's forms are cells of the ALU block; its flags are sub8's and A is not written. -/
theorem compareSetsTheFlagsOfSubAndKeepsA : Obligations.CompareSetsTheFlagsOfSubAndKeepsA := fun s r n =>
  ⟨encoded_aluReg .cp r, encoded_aluMem .cp, encoded_aluImm .cp n,
    aluReg_changesAF .cp s r, aluMem_readsHlChangesAF .cp s, aluImm_changesAF .cp s n⟩

/-- Settles O35: the forms of AND, OR and XOR are cells of the ALU block, and their flags are those of a bitwise result. -/
theorem logicOperationsSetTheirFlags : Obligations.LogicOperationsSetTheirFlags := fun s r n =>
  ⟨encoded_aluReg .and r, encoded_aluMem .and, encoded_aluImm .and n,
    encoded_aluReg .or r, encoded_aluMem .or, encoded_aluImm .or n,
    encoded_aluReg .xor r, encoded_aluMem .xor, encoded_aluImm .xor n,
    aluReg_changesAF .and s r, aluMem_readsHlChangesAF .and s, aluImm_changesAF .and s n,
    aluReg_changesAF .or s r, aluMem_readsHlChangesAF .or s, aluImm_changesAF .or s n,
    aluReg_changesAF .xor s r, aluMem_readsHlChangesAF .xor s, aluImm_changesAF .xor s n⟩

/-! INC and DEC (R175, R176, R201 to R204). -/

theorem toNat_inc8 (v : Byte) (cin : Bool) : (inc8 v cin).val.toNat = (v.toNat + 1) % 256 := BitVec.toNat_add v 1

theorem toNat_dec8 (v : Byte) (cin : Bool) : (dec8 v cin).val.toNat = (v.toNat + 255) % 256 := by
  rw [Nat.add_comm]; exact BitVec.toNat_sub v 1

theorem inc8_val (v : Byte) (cin : Bool) : (inc8 v cin).val = BitVec.ofNat 8 ((v.toNat + 1) % 256) := by
  rw [← toNat_inc8 v cin, BitVec.ofNat_toNat, BitVec.setWidth_eq]

theorem dec8_val (v : Byte) (cin : Bool) : (dec8 v cin).val = BitVec.ofNat 8 ((v.toNat + 255) % 256) := by
  rw [← toNat_dec8 v cin, BitVec.ofNat_toNat, BitVec.setWidth_eq]

theorem incFlags_of_inc8 (hf : HoldsFlags t (inc8 v s.flagC)) : IncFlags s v t := by
  refine flagsAre_of_f hf ((beq_zero_iff (inc8 v s.flagC).val).trans ?_) flag_clear beq_iff_eq Iff.rfl
  have hv := v.isLt
  rw [toNat_inc8]
  omega

theorem decFlags_of_dec8 (hf : HoldsFlags t (dec8 v s.flagC)) : DecFlags s v t := by
  refine flagsAre_of_f hf ((beq_zero_iff (dec8 v s.flagC).val).trans ?_) flag_set beq_iff_eq Iff.rfl
  have hv := v.isLt
  rw [toNat_dec8]
  omega

theorem exec_incMemHl (s : State) : exec .incMemHl s = incMem s := rfl

theorem exec_decMemHl (s : State) : exec .decMemHl s = decMem s := rfl

/-- Settles O36: the register forms write their register, the forms at HL read and then write there, and inc8 and dec8 hand C
through. -/
theorem incAndDecKeepTheCarry : Obligations.IncAndDecKeepTheCarry := fun s r =>
  ⟨encoded_incReg r, encoded_of_baseEntry_op rfl, encoded_decReg r, encoded_of_baseEntry_op rfl,
    exists_next_of_setReg_setFlags (Laws.exec_incReg r s) (toNat_inc8 _ _) fun _ => incFlags_of_inc8,
    exists_next_of_setReg_setFlags (Laws.exec_decReg r s) (toNat_dec8 _ _) fun _ => decFlags_of_dec8,
    rewritesHl_of_withRead (exec_incMemHl s) (congrArg (withWrite s.hl · _ _) (inc8_val _ _)) fun _ => incFlags_of_inc8,
    rewritesHl_of_withRead (exec_decMemHl s) (congrArg (withWrite s.hl · _ _) (dec8_val _ _)) fun _ => decFlags_of_dec8⟩

/-! DAA (R205). -/

theorem toNat_daaOut (a : Byte) (n h c : Bool) : (daaOut a n h c).1.toNat = (daaValue a.toNat n h c).1 := by
  cases n with
  | false =>
    simp only [daaOut, daaValue, Bool.or_eq_true, decide_eq_true_iff]
    split_ifs <;> bv_omega
  | true =>
    simp only [daaOut, daaValue]
    split_ifs <;> bv_omega

theorem daaOut_carry (a : Byte) (n h c : Bool) : (daaOut a n h c).2 = (daaValue a.toNat n h c).2 := by
  cases n <;> simp [daaOut, daaValue]

/-- Settles O37: the adjusted byte and the new carry are the rule's, in integers; N is kept and H cleared. -/
theorem daaAdjustsAsItsTable : Obligations.DaaAdjustsAsItsTable := fun s =>
  ⟨encoded_of_baseEntry_op rfl, changesAF_of_done rfl fun t ha hf =>
    ⟨by rw [ha, toNat_daaOut], flagsAre_of_f hf (by rw [ha]; exact beq_iff_eq) Iff.rfl flag_clear
      (by rw [daaOut_carry])⟩⟩

/-! CPL, SCF and CCF (R206 to R208). -/

/-- Settles O39: the three meanings, with the flags each keeps. -/
theorem complementAndCarryInstructions : Obligations.ComplementAndCarryInstructions := fun s =>
  ⟨encoded_of_baseEntry_op rfl, encoded_of_baseEntry_op rfl, encoded_of_baseEntry_op rfl,
    changesAF_of_done rfl fun t ha hf =>
      ⟨by rw [ha, BitVec.toNat_not], flagsAre_of_f hf Iff.rfl flag_set flag_set Iff.rfl⟩,
    changesAF_of_done rfl fun t ha hf =>
      ⟨ha, flagsAre_of_f hf Iff.rfl flag_clear flag_clear flag_set⟩,
    changesAF_of_done rfl fun t ha hf =>
      ⟨ha, flagsAre_of_f hf Iff.rfl flag_clear flag_clear (iff_of_eq (Bool.not_eq_true' _))⟩⟩

end Sys2Proof.Proofs
end

section
/-! PROOFS. 16-bit arithmetic (spec/42_alu16.md): the cells of the rp block by their field, what a write to a pair leaves, and the
sums of R230 and R231 in integers. -/

namespace Sys2Proof.Proofs

open Sys2Proof Sys2Proof.Machine Sys2Proof.Claims

variable {i : Instr} {s t : State} {p : Pair} {x : Word} {n m : Nat} {P : State → Prop}

/-! INC rr and DEC rr (R232, R233). -/

theorem encoded_incPair (p : Pair) : Encoded (Forms.incPair p) [0x03 + 16 * rpCode p] :=
  encoded_of_baseEntry_op (by cases p <;> rfl)

theorem encoded_decPair (p : Pair) : Encoded (Forms.decPair p) [0x0B + 16 * rpCode p] :=
  encoded_of_baseEntry_op (by cases p <;> rfl)

/-- An instruction that writes a pair of the rp field and nothing else. -/
theorem exists_next_of_setPair (hx : exec i s = done n (s.setPair p x)) (hm : x.toNat = m) :
    ∃ t, exec i s = .next t ∧ (t.pair p).toNat = m ∧ SameMemory s t ∧ t = { s.setPair p (t.pair p) with cycles := n } := by
  have hp : State.pair { s.setPair p x with cycles := n } p = x := State.setPair_pair_self s p x
  exact ⟨_, hx, by rw [hp, hm], State.setPair_byteAt s p x, by rw [hp]⟩

theorem toNat_sub_one (v : Word) : (v - 1).toNat = (v.toNat + 65535) % 65536 := by
  rw [Nat.add_comm]; exact BitVec.toNat_sub v 1

/-- Settles O40: both forms write the pair and nothing else, F included. -/
theorem pairIncAndDecChangeNoFlag : Obligations.PairIncAndDecChangeNoFlag := fun s p =>
  ⟨encoded_incPair p, encoded_decPair p,
    exists_next_of_setPair (Laws.exec_incPair p s) (BitVec.toNat_add (s.pair p) 1),
    exists_next_of_setPair (Laws.exec_decPair p s) (toNat_sub_one (s.pair p))⟩

/-! A sum into HL, with flags. -/

/-- An instruction that writes HL and the flags. -/
theorem exists_next_of_setHl_setFlags {z n' h c : Bool} {Q : Word → Prop} (hx : exec i s = done n ((s.setHl x).setFlags z n' h c))
    (hQ : Q x) (hP : ∀ t : State, t.f = flagsByte z n' h c → P t) :
    ∃ t, exec i s = .next t ∧ Q t.hl ∧ P t ∧ SameMemory s t ∧ t = { s with h := t.h, l := t.l, f := t.f, cycles := n } :=
  ⟨_, hx, (State.setHl_hl s x).symm ▸ hQ, hP _ rfl, State.setHl_byteAt s x, rfl⟩

/-! ADD HL,rr (R230, R234). -/

theorem encoded_addHl (p : Pair) : Encoded (Forms.addHl p) [0x09 + 16 * rpCode p] :=
  encoded_of_baseEntry_op (by cases p <;> rfl)

/-- Settles O41: the operand is read before HL is written, so ADD HL,HL is the same case; the sum and its carries are add16's, and
Z is handed through. -/
theorem addHlTakesCarriesFromBits11And15 : Obligations.AddHlTakesCarriesFromBits11And15 := fun s p =>
  ⟨encoded_addHl p,
    exists_next_of_setHl_setFlags (Q := fun v => v.toNat = (s.hl.toNat + (s.pair p).toNat) % 65536) (Laws.exec_addHl p s)
      (BitVec.toNat_ofNat _ 16) fun _ hf => flagsAre_of_f hf Iff.rfl flag_clear decide_eq_true_iff decide_eq_true_iff⟩

/-! ADD SP,e and LD HL,SP+e (R231, R235, R334). -/

/-- A word plus a displacement byte is the sum with its signed value, modulo 65536 (R8). -/
theorem toNat_add_sext8 (w : Word) (e : Byte) : ((w + sext8 e).toNat : Int) = (w.toNat + signed e) % 65536 := by
  have hsigned : (sext8 e).toInt = signed e := toInt_sext8 e
  rw [← hsigned, BitVec.toInt_eq_toNat_cond, BitVec.toNat_add]
  split <;> omega

theorem addSpFlags_of_addSp {w : Word} {e : Byte} (hf : t.f = flagsByte false false (addSp w e).2.1 (addSp w e).2.2) :
    AddSpFlags w e t :=
  flagsAre_of_f hf flag_clear flag_clear decide_eq_true_iff decide_eq_true_iff

theorem exec_addSpE8 (e : Byte) (s : State) : exec (.addSpE8 e) s = addSpDisp e s := rfl

theorem exec_ldHlSpE8 (e : Byte) (s : State) : exec (.ldHlSpE8 e) s = loadHlSpDisp e s := rfl

/-- Settles O42: both forms take the sum and the flags from addSp; they differ in the register that takes the sum. -/
theorem stackPointerDisplacementForms : Obligations.StackPointerDisplacementForms := fun s e =>
  ⟨encoded_of_baseEntry_n8 (o := 0xE8) rfl e, encoded_of_baseEntry_n8 (o := 0xF8) rfl e,
    ⟨_, exec_addSpE8 e s, toNat_add_sext8 s.sp e, addSpFlags_of_addSp rfl, fun _ => rfl, rfl⟩,
    exists_next_of_setHl_setFlags (Q := fun v => (v.toNat : Int) = (s.sp.toNat + signed e) % 65536) (exec_ldHlSpE8 e s)
      (toNat_add_sext8 s.sp e) fun _ => addSpFlags_of_addSp⟩

end Sys2Proof.Proofs
end

section
/-! PROOFS. Rotates, shifts and bit operations (spec/43_rotate_shift_bit.md): each result in integers or bit by bit, then every
form at once, on the accumulator, on a register and on the byte at HL. -/

namespace Sys2Proof.Proofs

open Sys2Proof Sys2Proof.Machine Sys2Proof.Claims

variable {s t : State} {v : Byte} {cin : Bool}

/-! The bits of a byte in integers. -/

theorem getLsbD_iff (v : Byte) (k : Nat) : v.getLsbD k = true ↔ v.toNat / 2 ^ k % 2 = 1 := by
  rw [← BitVec.testBit_toNat, Nat.testBit_eq_decide_div_mod_eq, decide_eq_true_iff]

theorem getLsbD_seven_iff (v : Byte) : v.getLsbD 7 = true ↔ v.toNat ≥ 128 := by
  have hv := v.isLt
  rw [getLsbD_iff]
  omega

theorem getLsbD_zero_iff (v : Byte) : v.getLsbD 0 = true ↔ v.toNat % 2 = 1 := by
  rw [getLsbD_iff, pow_zero, Nat.div_one]

/-- Bit 7 of a byte, in place. -/
theorem and_bit7 (v : Byte) : v &&& (0x80 : Byte) = (v >>> 7) <<< 7 := by
  have hmask : BitVec.allOnes 8 <<< 7 = 0x80 := by decide
  rw [BitVec.shiftLeft_ushiftRight, hmask]

theorem toNat_and_lowNibble (v : Byte) : (v &&& 0x0F).toNat = v.toNat % 16 :=
  (BitVec.toNat_and ..).trans (Nat.and_two_pow_sub_one_eq_mod _ 4)

theorem toNat_shiftRight (v : Byte) (k : Nat) : (v >>> k).toNat = v.toNat / 2 ^ k := by
  rw [BitVec.toNat_ushiftRight, Nat.shiftRight_eq_div_pow]

theorem toNat_carryBit (cin : Bool) : (BitVec.ofNat 8 cin.toNat).toNat = cin.toNat := by cases cin <;> rfl

/-- A shift to the left leaves the low k bits to y, so that the two bytes' union is their sum. -/
theorem toNat_shiftLeft_or (x : Byte) {y : Byte} {k : Nat} (hk : k ≤ 8) (hy : y.toNat < 2 ^ k) :
    ((x <<< k) ||| y).toNat = x.toNat * 2 ^ k % 256 + y.toNat := by
  have hleft : (x <<< k).toNat = x.toNat * 2 ^ k % 256 := by rw [BitVec.toNat_shiftLeft, Nat.shiftLeft_eq]
  have hdvd : 2 ^ k ∣ x.toNat * 2 ^ k % 256 :=
    (Nat.dvd_mod_iff (Nat.pow_dvd_pow 2 hk)).mpr (Nat.dvd_mul_left ..)
  obtain ⟨q, hq⟩ := hdvd
  rw [BitVec.toNat_or, hleft, hq, Nat.two_pow_add_eq_or_of_lt hy]

/-- A shift to the right by one that takes x's bit 0 in at bit 7. -/
theorem toNat_shiftRight_one_or (v x : Byte) : ((v >>> 1) ||| (x <<< 7)).toNat = v.toNat / 2 + 128 * (x.toNat % 2) := by
  have hv := v.isLt
  have hlow : (v >>> 1).toNat = v.toNat / 2 := toNat_shiftRight v 1
  rw [BitVec.or_comm, toNat_shiftLeft_or x (by decide) (by omega)]
  omega

/-! The results and carries of R250 to R257. -/

theorem toNat_shiftOut (op : ShiftOp) (v : Byte) (cin : Bool) : (shiftOut op v cin).1.toNat = shifted op v cin := by
  have hv := v.isLt
  have hcin := cin.toNat_le
  have hcarry := toNat_carryBit cin
  cases op with
  | rlc =>
    have hlow : (v >>> 7).toNat = v.toNat / 128 := toNat_shiftRight v 7
    rw [shiftOut, rlc8, shifted, toNat_shiftLeft_or v (by decide) (by omega)]
    omega
  | rrc => exact toNat_shiftRight_one_or v v
  | rl =>
    rw [shiftOut, rl8, shifted, toNat_shiftLeft_or v (by decide) (by omega)]
    omega
  | rr =>
    rw [shiftOut, rr8, shifted, toNat_shiftRight_one_or]
    omega
  | sla =>
    rw [shiftOut, sla8, shifted, BitVec.toNat_shiftLeft, Nat.shiftLeft_eq]
    omega
  | sra =>
    have hsign : (v >>> 7).toNat = v.toNat / 128 := toNat_shiftRight v 7
    rw [shiftOut, sra8, shifted, and_bit7, toNat_shiftRight_one_or]
    omega
  | swap =>
    have hlow : (v &&& 0x0F).toNat = v.toNat % 16 := toNat_and_lowNibble v
    have hhigh : (v >>> 4).toNat = v.toNat / 16 := toNat_shiftRight v 4
    rw [shiftOut, swap8, shifted, toNat_shiftLeft_or _ (by decide) (by omega)]
    omega
  | srl => exact toNat_shiftRight v 1

theorem shiftOut_carry_iff (op : ShiftOp) (v : Byte) (cin : Bool) : (shiftOut op v cin).2 = true ↔ shiftCarry op v := by
  cases op with
  | rlc | rl | sla => exact getLsbD_seven_iff v
  | rrc | rr | sra | srl => exact getLsbD_zero_iff v
  | swap => exact flag_clear

theorem shiftOut_eq_ofNat (op : ShiftOp) (v : Byte) (cin : Bool) :
    (shiftOut op v cin).1 = BitVec.ofNat 8 (shifted op v cin) := by
  rw [← toNat_shiftOut, BitVec.ofNat_toNat, BitVec.setWidth_eq]

/-! RLCA, RRCA, RLA and RRA (R258 to R261). -/

theorem rotateA_changesAF {i : Instr} (op : ShiftOp) (hx : exec i s = rotateA op s) :
    ChangesAF i s 4 fun t => t.a.toNat = shifted op s.a s.flagC ∧ FlagsAre t False False False (shiftCarry op s.a) :=
  changesAF_of_done hx fun t ha hf =>
    ⟨by rw [ha, toNat_shiftOut], flagsAre_of_f hf flag_clear flag_clear flag_clear (shiftOut_carry_iff op s.a s.flagC)⟩

/-- Settles O43: the four are one meaning, which hands the flags byte a clear Z whatever the result. -/
theorem accumulatorRotatesClearZ : Obligations.AccumulatorRotatesClearZ := fun _ =>
  ⟨encoded_of_baseEntry_op rfl, encoded_of_baseEntry_op rfl, encoded_of_baseEntry_op rfl, encoded_of_baseEntry_op rfl,
    rotateA_changesAF .rlc rfl, rotateA_changesAF .rrc rfl, rotateA_changesAF .rl rfl, rotateA_changesAF .rr rfl⟩

/-! The extended rotates and shifts (R262 to R277). -/

theorem shiftFlags_of_shiftOut {op : ShiftOp}
    (hf : t.f = flagsByte ((shiftOut op v cin).1 == 0) false false (shiftOut op v cin).2) : ShiftFlags op v cin t := by
  refine flagsAre_of_f hf ?_ flag_clear flag_clear (shiftOut_carry_iff op v cin)
  rw [← toNat_shiftOut]
  exact beq_zero_iff _

theorem shiftsRegister (op : ShiftOp) (r : Reg8) (s : State) : ShiftsRegister op r s :=
  ⟨encoded_of_extEntry (extEntry_shiftReg op r),
    exists_next_of_setReg_setFlags (Laws.exec_shiftReg op r s) (toNat_shiftOut ..) fun _ => shiftFlags_of_shiftOut⟩

theorem shiftsMemory (op : ShiftOp) (s : State) : ShiftsMemory op s :=
  ⟨encoded_of_extEntry (extEntry_shiftMem op),
    rewritesHl_of_withRead (Laws.exec_shiftMem op s) (congrArg (withWrite s.hl · _ _) (shiftOut_eq_ofNat ..))
      fun _ => shiftFlags_of_shiftOut⟩

/-- Settles O44: the rotates are cases of the one rule for a register and the one for the byte at HL. -/
theorem extendedRotatesRotateByOne : Obligations.ExtendedRotatesRotateByOne := fun s r =>
  ⟨shiftsRegister .rlc r s, shiftsMemory .rlc s, shiftsRegister .rrc r s, shiftsMemory .rrc s,
    shiftsRegister .rl r s, shiftsMemory .rl s, shiftsRegister .rr r s, shiftsMemory .rr s⟩

/-- Settles O45: the shifts are cases of the same two rules; SWAP's carry is constantly clear. -/
theorem extendedShiftsShiftByOne : Obligations.ExtendedShiftsShiftByOne := fun s r =>
  ⟨shiftsRegister .sla r s, shiftsMemory .sla s, shiftsRegister .sra r s, shiftsMemory .sra s,
    shiftsRegister .swap r s, shiftsMemory .swap s, shiftsRegister .srl r s, shiftsMemory .srl s⟩

/-! BIT (R278, R279). -/

/-- The byte of a bit operation on the byte at HL, whose z field is 6 (R103, R111). -/
theorem encoded_of_extEntry_memHl {i : Instr} {x y : Byte} (h : extEntry (x + y + 6) = i) : Encoded i [0xCB, x + 6 + y] :=
  encoded_of_extEntry (by rw [add_right_comm, h])

/-- The flags of BIT: Z is clear where the bit is set, and C is handed through. -/
theorem flagsAre_of_bitOf {i : Fin 8} {c : Bool} (hf : t.f = flagsByte (!bitOf v i) false true c) :
    FlagsAre t (v.toNat / 2 ^ i.val % 2 = 0) False True (c = true) := by
  refine flagsAre_of_f hf ?_ flag_clear flag_set Iff.rfl
  rw [Bool.not_eq_true', ← Bool.not_eq_true, bitOf, getLsbD_iff, Nat.mod_two_not_eq_one]

/-- Settles O46: BIT writes F alone, from the bit and the C it found. -/
theorem bitTestSetsZToTheComplement : Obligations.BitTestSetsZToTheComplement := fun s i r =>
  ⟨encoded_of_extEntry (extEntry_testBitReg i r), encoded_of_extEntry_memHl (extEntry_testBitMem i),
    changesAF_of_done (a' := s.a) (Laws.exec_testBitReg i r s) fun _ ha hf => ⟨ha, flagsAre_of_bitOf hf⟩,
    readsHlChangesAF_of_withRead (a' := s.a) (Laws.exec_testBitMem i s) rfl fun _ ha hf => ⟨ha, flagsAre_of_bitOf hf⟩⟩

/-! RES and SET (R280 to R283). -/

theorem getLsbD_bitMask (i : Fin 8) (j : Nat) : (bitMask i).getLsbD j = decide (i.val = j) :=
  (BitVec.getLsbD_twoPow i.val j).trans (by rw [decide_eq_true i.isLt, Bool.true_and])

theorem getLsbD_resetBit (v : Byte) (i : Fin 8) (j : Nat) (hj : j < 8) :
    (resetBit v i).getLsbD j = if j = i.val then false else v.getLsbD j := by
  rw [resetBit, BitVec.getLsbD_and, BitVec.getLsbD_not, getLsbD_bitMask]
  rcases eq_or_ne j i.val with rfl | hne
  · simp
  · simp [hj, hne, hne.symm]

theorem getLsbD_setBit (v : Byte) (i : Fin 8) (j : Nat) :
    (setBit v i).getLsbD j = if j = i.val then true else v.getLsbD j := by
  rw [setBit, BitVec.getLsbD_or, getLsbD_bitMask]
  rcases eq_or_ne j i.val with rfl | hne
  · simp
  · simp [hne, hne.symm]

/-- An instruction that writes a register and nothing else. -/
theorem exists_next_of_setReg {i : Instr} {n : Nat} {r : Reg8} {x : Byte} {Q : Byte → Prop}
    (hx : exec i s = done n (s.setReg r x)) (hQ : Q x) :
    ∃ t, exec i s = .next t ∧ Q (t.reg r) ∧ SameMemory s t ∧ t = { s.setReg r (t.reg r) with cycles := n } := by
  have hr : State.reg { s.setReg r x with cycles := n } r = x := State.setReg_reg_self s r x
  exact ⟨_, hx, hr.symm ▸ hQ, State.setReg_byteAt s r x, by rw [hr]⟩

/-- Settles O47: the two operations bit by bit; neither form writes F, and the form at HL writes back whatever it read. -/
theorem resAndSetChangeOneBit : Obligations.ResAndSetChangeOneBit := fun s i r =>
  ⟨encoded_of_extEntry (extEntry_clearBitReg i r), encoded_of_extEntry_memHl (extEntry_clearBitMem i),
    encoded_of_extEntry (extEntry_raiseBitReg i r), encoded_of_extEntry_memHl (extEntry_raiseBitMem i),
    exists_next_of_setReg (Q := fun x => ∀ j < 8, x.getLsbD j = if j = i.val then false else (s.reg r).getLsbD j)
      (Laws.exec_clearBitReg i r s) (getLsbD_resetBit _ i),
    exists_next_of_setReg (Q := fun x => ∀ j < 8, x.getLsbD j = if j = i.val then true else (s.reg r).getLsbD j)
      (Laws.exec_raiseBitReg i r s) (fun j _ => getLsbD_setBit _ i j),
    ⟨(resetBit · i), (getLsbD_resetBit · i), rewritesHl_of_withRead (Laws.exec_clearBitMem i s) rfl fun _ hf => hf⟩,
    ⟨(setBit · i), fun v j _ => getLsbD_setBit v i j,
      rewritesHl_of_withRead (Laws.exec_raiseBitMem i s) rfl fun _ hf => hf⟩⟩

end Sys2Proof.Proofs
end

section
/-! PROOFS. 8-bit loads and stores (spec/44_loads8.md): the cells of the base table by their fields, then one rule for a load (a read,
then a write of a register), one for a store (a single write), and the two with HL moved after the access. -/

namespace Sys2Proof.Proofs

open Sys2Proof Sys2Proof.Machine Sys2Proof.Claims

variable {i : Instr} {s : State} {n m : Nat} {a : Word} {v : Byte}

/-! The encodings (R103, R110). -/

theorem encoded_of_baseEntry_n16 {o : Byte} {mk : Word → Instr} (h : baseEntry o = .n16 mk) (nn : Word) :
    Encoded (mk nn) [o, loByte nn, hiByte nn] := by
  have hentry := baseEntry_encodes o
  rw [h] at hentry
  refine ⟨(hentry nn).2, fun rest => (decode_of_n16 h (loByte nn) (hiByte nn) rest).trans ?_⟩
  rw [wordOf_bytes]

theorem encoded_loadReg (dst src : Reg8) : Encoded (Forms.loadReg dst src) [0x40 + 8 * r8Code dst + r8Code src] :=
  encoded_of_baseEntry_op (by cases dst <;> cases src <;> rfl)

theorem encoded_loadImm (dst : Reg8) (n : Byte) : Encoded (Forms.loadImm dst n) [0x06 + 8 * r8Code dst, n] :=
  encoded_of_baseEntry_n8 (mk := Forms.loadImm dst) (by cases dst <;> rfl) n

theorem encoded_loadMem (dst : Reg8) : Encoded (Forms.loadMem dst) [0x46 + 8 * r8Code dst] :=
  encoded_of_baseEntry_op (by cases dst <;> rfl)

theorem encoded_storeMem (r : Reg8) : Encoded (Forms.storeMem r) [0x70 + r8Code r] :=
  encoded_of_baseEntry_op (by cases r <;> rfl)

/-! A load, a store. -/

/-- An instruction whose first access is a write faults where that address is unmapped (R423). -/
theorem faultsAt_of_withWrite {k : State → Out} (hx : exec i s = withWrite a v s k) : FaultsAt i s a .write :=
  fun h => hx.trans (withWrite_no h)

/-- An instruction that reads a byte and writes it to a register. -/
theorem loadsByte_of_withRead {dst : Reg8} (hx : exec i s = withRead a s fun v t => done n (t.setReg dst v)) :
    LoadsByte i s n dst a :=
  ⟨fun ha => ⟨hx.trans (withRead_ok ha), State.setReg_byteAt (s.afterRead .read a) dst _⟩, faultsAt_of_withRead hx⟩

/-- An instruction that writes a byte and nothing else. -/
theorem storesByte_of_withWrite (hx : exec i s = withWrite a v s (done n)) : StoresByte i s n a v :=
  ⟨fun ha => ⟨_, hx.trans (withWrite_ok ha), stored_afterWrite s a v, by rw [afterWrite_eq]⟩, faultsAt_of_withWrite hx⟩

/-- Settles O49: a register's value is read before it is written, so a register loaded with itself is kept; the form at HL takes its
address from the state before the load. -/
theorem registerLoadsCopyTheOperand : Obligations.RegisterLoadsCopyTheOperand := fun s dst src n =>
  ⟨encoded_loadReg dst src, encoded_loadImm dst n, encoded_loadMem dst,
    Laws.exec_loadReg dst src s, State.setReg_byteAt s dst _,
    (Laws.exec_loadReg dst dst s).trans (congrArg (done 4) (State.setReg_self s dst)),
    Laws.exec_loadImm dst n s, State.setReg_byteAt s dst n,
    loadsByte_of_withRead (Laws.exec_loadMem dst s)⟩

theorem exec_ldMemHlN8 (n : Byte) (s : State) : exec (.ldMemHlN8 n) s = storeImm n s := rfl

/-- Settles O50: both forms are one write at HL; a register's value, H's and L's included, is read before it. -/
theorem storesAtHl : Obligations.StoresAtHl := fun s r n =>
  ⟨encoded_storeMem r, encoded_of_baseEntry_n8 (o := 0x36) rfl n,
    storesByte_of_withWrite (Laws.exec_storeMem r s), storesByte_of_withWrite (exec_ldMemHlN8 n s)⟩

/-! The loads and stores of A (R295 to R304). -/

theorem highPage_eq (n : Byte) : highPage n = BitVec.ofNat 16 (0xFF00 + n.toNat) := by
  have hn := n.isLt
  apply BitVec.eq_of_toNat_eq
  rw [highPage, toNat_wordOf, BitVec.toNat_ofNat, Nat.mod_eq_of_lt (by omega)]
  rfl

theorem exec_ldAMemBc (s : State) : exec .ldAMemBc s = loadPair .bc s := rfl

theorem exec_ldAMemDe (s : State) : exec .ldAMemDe s = loadPair .de s := rfl

theorem exec_ldAMemN16 (nn : Word) (s : State) : exec (.ldAMemN16 nn) s = loadAbs nn s := rfl

theorem exec_ldhAMemN8 (n : Byte) (s : State) : exec (.ldhAMemN8 n) s = loadHighImm n s := rfl

theorem exec_ldAMemC (s : State) : exec .ldAMemC s = loadHighC s := rfl

/-- Settles O51: each is a load of A; they differ in the address. -/
theorem accumulatorLoads : Obligations.AccumulatorLoads := fun s n nn =>
  ⟨encoded_of_baseEntry_op rfl, encoded_of_baseEntry_op rfl, encoded_of_baseEntry_n16 (o := 0xFA) rfl nn,
    encoded_of_baseEntry_n8 (o := 0xF0) rfl n, encoded_of_baseEntry_op rfl,
    loadsByte_of_withRead (exec_ldAMemBc s), loadsByte_of_withRead (exec_ldAMemDe s),
    loadsByte_of_withRead (exec_ldAMemN16 nn s),
    highPage_eq n ▸ loadsByte_of_withRead (exec_ldhAMemN8 n s),
    highPage_eq s.c ▸ loadsByte_of_withRead (exec_ldAMemC s)⟩

theorem exec_ldMemBcA (s : State) : exec .ldMemBcA s = storePair .bc s := rfl

theorem exec_ldMemDeA (s : State) : exec .ldMemDeA s = storePair .de s := rfl

theorem exec_ldMemN16A (nn : Word) (s : State) : exec (.ldMemN16A nn) s = storeAbs nn s := rfl

theorem exec_ldhMemN8A (n : Byte) (s : State) : exec (.ldhMemN8A n) s = storeHighImm n s := rfl

theorem exec_ldMemCA (s : State) : exec .ldMemCA s = storeHighC s := rfl

/-- Settles O52: each is a store of A; they differ in the address. -/
theorem accumulatorStores : Obligations.AccumulatorStores := fun s n nn =>
  ⟨encoded_of_baseEntry_op rfl, encoded_of_baseEntry_op rfl, encoded_of_baseEntry_n16 (o := 0xEA) rfl nn,
    encoded_of_baseEntry_n8 (o := 0xE0) rfl n, encoded_of_baseEntry_op rfl,
    storesByte_of_withWrite (exec_ldMemBcA s), storesByte_of_withWrite (exec_ldMemDeA s),
    storesByte_of_withWrite (exec_ldMemN16A nn s),
    highPage_eq n ▸ storesByte_of_withWrite (exec_ldhMemN8A n s),
    highPage_eq s.c ▸ storesByte_of_withWrite (exec_ldMemCA s)⟩

/-! HL moved after the access (R305 to R308). -/

/-- A store at HL, then a write of HL: the write of memory leaves HL, so that it moves from where it was. -/
theorem exists_next_of_withWrite_setHl {move : Word → Word}
    (hx : exec i s = withWrite s.hl s.a s fun t => done 8 (t.setHl (move t.hl))) (hm : (move s.hl).toNat = m)
    (ha : s.accessible s.hl = true) :
    ∃ t, exec i s = .next t ∧ Stored s t s.hl s.a ∧ t.hl.toNat = m ∧
      t = { s with
            h := t.h, l := t.l, ram := t.ram, ifReg := t.ifReg, ieReg := t.ieReg, cycles := 8
            answers := s.answers.withdrawn (region s.params s.hl)
            trace := s.trace ++ [⟨.write, s.hl, s.a⟩] } := by
  refine ⟨_, hx.trans (withWrite_ok ha), stored_afterWrite s s.hl s.a, ?_, ?_⟩
  · rw [State.afterWrite_hl]
    exact (congrArg BitVec.toNat (State.setHl_hl s (move s.hl))).trans hm
  · rw [afterWrite_eq]
    rfl

/-- A load of A from HL, then a write of HL. -/
theorem exists_next_of_withRead_setHl {move : Word → Word}
    (hx : exec i s = withRead s.hl s fun v t => done 8 ({ t with a := v }.setHl (move t.hl)))
    (hm : (move s.hl).toNat = m) (ha : s.accessible s.hl = true) :
    ∃ t, exec i s = .next t ∧ t.a = s.readValue s.hl ∧ t.hl.toNat = m ∧ SameMemory s t ∧
      t = { s.afterRead .read s.hl with a := t.a, h := t.h, l := t.l, cycles := 8 } :=
  ⟨_, hx.trans (withRead_ok ha), rfl, (congrArg BitVec.toNat (State.setHl_hl s (move s.hl))).trans hm, fun _ => rfl, rfl⟩

theorem exec_ldMemHlIncA (s : State) : exec .ldMemHlIncA s = storeMemInc s := rfl

theorem exec_ldMemHlDecA (s : State) : exec .ldMemHlDecA s = storeMemDec s := rfl

theorem exec_ldAMemHlInc (s : State) : exec .ldAMemHlInc s = loadMemInc s := rfl

theorem exec_ldAMemHlDec (s : State) : exec .ldAMemHlDec s = loadMemDec s := rfl

/-- Settles O53: the access comes first in all four, so that it is at the old HL, and a fault leaves HL. -/
theorem postIncrementAndDecrementForms : Obligations.PostIncrementAndDecrementForms := fun s =>
  ⟨encoded_of_baseEntry_op rfl, encoded_of_baseEntry_op rfl, encoded_of_baseEntry_op rfl, encoded_of_baseEntry_op rfl,
    fun ha =>
      ⟨exists_next_of_withWrite_setHl (move := (· + 1)) (exec_ldMemHlIncA s) (BitVec.toNat_add s.hl 1) ha,
        exists_next_of_withWrite_setHl (move := (· - 1)) (exec_ldMemHlDecA s) (toNat_sub_one s.hl) ha,
        exists_next_of_withRead_setHl (move := (· + 1)) (exec_ldAMemHlInc s) (BitVec.toNat_add s.hl 1) ha,
        exists_next_of_withRead_setHl (move := (· - 1)) (exec_ldAMemHlDec s) (toNat_sub_one s.hl) ha⟩,
    faultsAt_of_withWrite (exec_ldMemHlIncA s), faultsAt_of_withWrite (exec_ldMemHlDecA s),
    faultsAt_of_withRead (exec_ldAMemHlInc s), faultsAt_of_withRead (exec_ldAMemHlDec s)⟩

end Sys2Proof.Proofs
end

section
/-! PROOFS. 16-bit loads and the stack (spec/45_loads16_stack.md): one rule for a 16-bit store, of which a push is the case that
first lowers SP, and one for a pop; each instruction is a case of its rule. -/

namespace Sys2Proof.Proofs

open Sys2Proof Sys2Proof.Machine Sys2Proof.Claims

variable {i : Instr} {s s0 : State} {n : Nat} {a v pc : Word} {k : State → Out} {upd : Word → State → State}

/-! The encodings (R104, R105, R110). -/

theorem encoded_loadPairImm (p : Pair) (lo hi : Byte) :
    Encoded (Forms.loadPairImm p (wordOf hi lo)) [0x01 + 16 * rpCode p, lo, hi] := by
  have hentry : baseEntry (0x01 + 16 * rpCode p) = .n16 (Forms.loadPairImm p) := by cases p <;> rfl
  have hencoded := encoded_of_baseEntry_n16 hentry (wordOf hi lo)
  rwa [loByte_wordOf, hiByte_wordOf] at hencoded

theorem encoded_pushPair (p : StackPair) : Encoded (Forms.pushPair p) [0xC5 + 16 * rp2Code p] :=
  encoded_of_baseEntry_op (by cases p <;> rfl)

theorem encoded_popPair (p : StackPair) : Encoded (Forms.popPair p) [0xC1 + 16 * rp2Code p] :=
  encoded_of_baseEntry_op (by cases p <;> rfl)

/-! LD rr,nn and LD SP,HL (R331, R333). -/

theorem wordOf_eq_ofNat (h l : Byte) : wordOf h l = BitVec.ofNat 16 (256 * h.toNat + l.toNat) := by
  rw [← toNat_wordOf, BitVec.ofNat_toNat, BitVec.setWidth_eq]

/-- A pair that takes the word of two bytes has them in its high and its low register (R23). -/
theorem setPair_wordOf (s : State) (p : Pair) (hi lo : Byte) :
    s.setPair p (wordOf hi lo) =
      match p with
      | .bc => { s with b := hi, c := lo }
      | .de => { s with d := hi, e := lo }
      | .hl => { s with h := hi, l := lo }
      | .sp => { s with sp := BitVec.ofNat 16 (256 * hi.toNat + lo.toNat) } := by
  cases p with
  | sp => rw [wordOf_eq_ofNat]; rfl
  | _ => simp only [State.setPair, State.setHl, hiByte_wordOf, loByte_wordOf]

theorem exec_ldSpHl (s : State) : exec .ldSpHl s = loadSpHl s := rfl

/-- Settles O54: the four loads write one pair, and the word of two bytes gives each register of the pair its byte. -/
theorem pairLoadsSplitTheImmediate : Obligations.PairLoadsSplitTheImmediate := fun s p lo hi =>
  have hload (q : Pair) := (Laws.exec_loadPairImm q (wordOf hi lo) s).trans (congrArg (done 12) (setPair_wordOf s q hi lo))
  have ⟨t, hnext, hpair, hmem, _⟩ :=
    exists_next_of_setPair (Laws.exec_loadPairImm p (wordOf hi lo) s) (toNat_wordOf hi lo)
  ⟨encoded_loadPairImm p lo hi, encoded_of_baseEntry_op rfl, hload .bc, hload .de, hload .hl, hload .sp,
    ⟨t, hnext, hpair, hmem⟩,
    (exec_ldSpHl s).trans (congrArg (fun w => done 8 { s with sp := w }) (wordOf_eq_ofNat s.h s.l))⟩

/-! 16-bit stores (R332, R335, R336). -/

/-- The rule for a 16-bit write and then at most a jump: a push is the case where s is s0 with SP lowered, a call the one where the
continuation writes PC. -/
theorem storesWord_of_withWrite16 (hx : exec i s0 = withWrite16 a v s k)
    (hk : ∀ t : State, t.pc = s.pc → k t = done n { t with pc := pc }) : StoresWord i s0 s n a v pc := by
  refine ⟨fun hlo hhi => ?_, fun hlo => ?_, fun hlo hhi => ?_⟩
  · have hpc : ((s.afterWrite a (loByte v)).afterWrite (a + 1) (hiByte v)).pc = s.pc :=
      (State.afterWrite_pc ..).trans (State.afterWrite_pc ..)
    refine ⟨_, (hx.trans (withWrite16_ok hlo hhi)).trans (hk _ hpc), stored16_afterWrite s a v, ?_⟩
    rw [afterWrite_eq, afterWrite_eq, List.append_assoc]
    rfl
  · rw [hx, withWrite16, withWrite_no hlo]
    rfl
  · have hhi' : (s.afterWrite a (loByte v)).accessible (a + 1) = false := by rwa [State.afterWrite_accessible]
    have hfault : exec i s0 = raiseUnmapped (a + 1) .write (s.afterWrite a (loByte v)) := by
      rw [hx, withWrite16, withWrite_ok hlo, withWrite_no hhi']
    rw [raiseUnmapped, State.afterWrite_pcStart] at hfault
    refine ⟨_, hfault, stored_afterWrite s a (loByte v), ?_⟩
    rw [afterWrite_eq]
    rfl

/-- The rule where the write ends the instruction. -/
theorem storesWord_of_withWrite16_done (hx : exec i s0 = withWrite16 a v s (done n)) : StoresWord i s0 s n a v s.pc :=
  storesWord_of_withWrite16 hx fun _ hpc => hpc ▸ rfl

theorem exec_ldMemN16Sp (nn : Word) (s : State) : exec (.ldMemN16Sp nn) s = storeSp nn s := rfl

theorem pushPair_pushes (p : StackPair) (s : State) : Pushes (Forms.pushPair p) s 16 (s.stackPair p) s.pc :=
  storesWord_of_withWrite16_done (Laws.exec_pushPair p s)

/-- Settles O55: LD (nn),SP is the 16-bit store itself, and each PUSH, PUSH AF included, is the push of its pair. -/
theorem pushAndStoreSpWriteLowByteFirst : Obligations.PushAndStoreSpWriteLowByteFirst := fun s p nn =>
  ⟨encoded_of_baseEntry_n16 (o := 0x08) rfl nn, encoded_pushPair p, storesWord_of_withWrite16_done (exec_ldMemN16Sp nn s),
    pushPair_pushes .bc s, pushPair_pushes .de s, pushPair_pushes .hl s, pushPair_pushes .af s⟩

/-! Pops (R337, R338). -/

/-- The rule for a pop whose use of the value writes no memory: SP moves only after both reads. -/
theorem pops_of_withPop (hx : exec i s = withPop s fun v t => done n (upd v t)) (hmem : ∀ v t, SameMemory t (upd v t)) :
    Pops i s n upd := by
  refine ⟨fun hlo hhi => ⟨?_, fun x => hmem _ _ x⟩, fun hlo => ?_, fun hlo hhi => ?_⟩
  · rw [hx, withPop, withRead16_ok hlo hhi]
    rfl
  · rw [hx, withPop, withRead16, withRead_no hlo]
    rfl
  · have hhi' : (s.afterRead .read s.sp).accessible (s.sp + 1) = false := hhi
    rw [hx, withPop, withRead16, withRead_ok hlo, withRead_no hhi']
    rfl

theorem popPair_pops (p : StackPair) (s : State) : Pops (Forms.popPair p) s 12 fun v t => t.setStackPair p v :=
  pops_of_withPop (Laws.exec_popPair p s) fun v t => State.setStackPair_byteAt t p v

/-- Settles O56: each POP is the pop into its pair, and the write of AF is the one that masks F (R21). -/
theorem popLoadsThePairAndMasksF : Obligations.PopLoadsThePairAndMasksF := fun s p =>
  ⟨encoded_popPair p, popPair_pops .bc s, popPair_pops .de s, popPair_pops .hl s, popPair_pops .af s⟩

end Sys2Proof.Proofs
end

section
/-! PROOFS. Control transfer (spec/46_control.md): the cells of the base table by the condition and target fields, then one rule for
what a condition decides; a call is a push and a return a pop, by the rules of the stack. -/

namespace Sys2Proof.Proofs

open Sys2Proof Sys2Proof.Machine Sys2Proof.Claims

variable {cc : Cond} {i : Instr} {s : State} {taken untaken : Out}

/-! The encodings (R107, R108, R110). -/

theorem encoded_jumpAbsIf (cc : Cond) (nn : Word) :
    Encoded (Forms.jumpAbsIf cc nn) [0xC2 + 8 * ccCode cc, loByte nn, hiByte nn] :=
  encoded_of_baseEntry_n16 (mk := Forms.jumpAbsIf cc) (by cases cc <;> rfl) nn

theorem encoded_jumpRelIf (cc : Cond) (e : Byte) : Encoded (Forms.jumpRelIf cc e) [0x20 + 8 * ccCode cc, e] :=
  encoded_of_baseEntry_n8 (mk := Forms.jumpRelIf cc) (by cases cc <;> rfl) e

theorem encoded_callAbsIf (cc : Cond) (nn : Word) :
    Encoded (Forms.callAbsIf cc nn) [0xC4 + 8 * ccCode cc, loByte nn, hiByte nn] :=
  encoded_of_baseEntry_n16 (mk := Forms.callAbsIf cc) (by cases cc <;> rfl) nn

theorem encoded_returnPopIf (cc : Cond) : Encoded (Forms.returnPopIf cc) [0xC0 + 8 * ccCode cc] :=
  encoded_of_baseEntry_op (by cases cc <;> rfl)

theorem encoded_restart (t : Fin 8) : Encoded (Forms.restart t) [0xC7 + BitVec.ofNat 8 (8 * t.val)] :=
  encoded_of_baseEntry_op (by fin_cases t <;> rfl)

/-! Conditions (R360). -/

theorem condHolds_iff (cc : Cond) (s : State) : condHolds cc s = true ↔ ccMeans cc s := by
  cases cc with
  | nz | nc => exact Iff.of_eq (Bool.not_eq_true' _)
  | z | c => exact Iff.rfl

theorem exec_of_ccMeans (hx : exec i s = if condHolds cc s then taken else untaken) (hcc : ccMeans cc s) : exec i s = taken :=
  hx.trans (if_pos ((condHolds_iff cc s).mpr hcc))

theorem exec_of_not_ccMeans (hx : exec i s = if condHolds cc s then taken else untaken) (hcc : ¬ ccMeans cc s) :
    exec i s = untaken :=
  hx.trans (if_neg (hcc ∘ (condHolds_iff cc s).mp))

/-! Jumps (R361 to R365). -/

theorem exec_jpN16 (nn : Word) (s : State) : exec (.jpN16 nn) s = jumpAbs nn s := rfl

theorem exec_jpHl (s : State) : exec .jpHl s = jumpHl s := rfl

theorem exec_jrE8 (e : Byte) (s : State) : exec (.jrE8 e) s = jumpRel e s := rfl

/-- Settles O57: each conditional jump is the plain one or nothing but its cycles, and a relative target is PC plus the signed
displacement. -/
theorem jumpsSetPc : Obligations.JumpsSetPc := fun s cc nn e =>
  have habs := Laws.exec_jumpAbsIf cc nn s
  have hrel := Laws.exec_jumpRelIf cc e s
  ⟨encoded_of_baseEntry_n16 (o := 0xC3) rfl nn, encoded_of_baseEntry_op rfl, encoded_of_baseEntry_n8 (o := 0x18) rfl e,
    encoded_jumpAbsIf cc nn, encoded_jumpRelIf cc e, exec_jpN16 nn s, exec_jpHl s, exec_of_ccMeans habs,
    exec_of_not_ccMeans habs, ⟨s.pc + sext8 e, toNat_add_sext8 s.pc e, exec_jrE8 e s, exec_of_ccMeans hrel⟩,
    exec_of_not_ccMeans hrel⟩

/-! Calls (R366, R367, R371). -/

theorem exec_callN16 (nn : Word) (s : State) : exec (.callN16 nn) s = callAbs nn s := rfl

/-- A push and then a jump is the 16-bit store at the lowered SP whose continuation writes PC. -/
theorem pushes_of_withPush {n : Nat} {v pc : Word} (hx : exec i s = withPush v s fun t => done n { t with pc := pc }) :
    Pushes i s n v pc :=
  storesWord_of_withWrite16 hx fun _ _ => rfl

/-- Settles O58: CALL, a CALL cc taken and RST are the push of PC and then the jump; a CALL cc not taken ends before the push. -/
theorem callsPushTheReturnAddress : Obligations.CallsPushTheReturnAddress := fun s cc nn t =>
  have hcall := Laws.exec_callAbsIf cc nn s
  ⟨encoded_of_baseEntry_n16 (o := 0xCD) rfl nn, encoded_callAbsIf cc nn, encoded_restart t,
    pushes_of_withPush (exec_callN16 nn s), fun hcc => pushes_of_withPush (exec_of_ccMeans hcall hcc),
    exec_of_not_ccMeans hcall, pushes_of_withPush (Laws.exec_restart t s)⟩

/-! Returns (R368 to R370). -/

theorem exec_ret (s : State) : exec .ret s = returnPop s := rfl

theorem exec_reti (s : State) : exec .reti s = returnFromInterrupt s := rfl

/-- Settles O59: RET, a RET cc taken and RETI are the pop into PC, with IME set beside PC for RETI; neither is memory. -/
theorem returnsPopPc : Obligations.ReturnsPopPc := fun s cc =>
  have hret := Laws.exec_returnPopIf cc s
  ⟨encoded_of_baseEntry_op rfl, encoded_of_baseEntry_op rfl, encoded_returnPopIf cc,
    pops_of_withPop (exec_ret s) fun _ _ _ => rfl,
    fun hcc => pops_of_withPop (exec_of_ccMeans hret hcc) fun _ _ _ => rfl, exec_of_not_ccMeans hret,
    pops_of_withPop (exec_reti s) fun _ _ _ => rfl⟩

end Sys2Proof.Proofs
end

section
/-! PROOFS. The system instructions (spec/47_system.md): each is one update of the control flags, and EI is the one that branches, on
EI_DELAYED and then on IME. -/

namespace Sys2Proof.Proofs

open Sys2Proof Sys2Proof.Machine Sys2Proof.Claims

variable {s : State}

theorem exec_nop (s : State) : exec .nop s = done 4 s := rfl

theorem exec_halt (s : State) : exec .halt s = halt s := rfl

theorem exec_stop (x : Byte) (s : State) : exec (.stop x) s = stop x s := rfl

theorem exec_di (s : State) : exec .di s = disableInterrupts s := rfl

theorem exec_ei (s : State) : exec .ei s = enableInterrupts s := rfl

/-! EI by its branches (R394). -/

theorem enableInterrupts_delayed_disabled (hd : s.params.eiDelayed = true) (hi : s.ime = false) :
    enableInterrupts s = done 4 { s with eiPending := true } := by
  rw [enableInterrupts, if_pos hd, if_neg (ne_true_of_eq_false hi)]

theorem enableInterrupts_delayed_enabled (hd : s.params.eiDelayed = true) (hi : s.ime = true) :
    enableInterrupts s = done 4 s := by
  rw [enableInterrupts, if_pos hd, if_pos hi]

theorem enableInterrupts_immediate (hd : s.params.eiDelayed = false) :
    enableInterrupts s = done 4 { s with ime := true } :=
  if_neg (ne_true_of_eq_false hd)

/-- Settles O60: NOP, HALT, STOP and DI are their one update, and EI is the update of the branch that EI_DELAYED and IME choose. -/
theorem systemInstructionsSetTheControlFlags : Obligations.SystemInstructionsSetTheControlFlags := fun s x =>
  ⟨encoded_of_baseEntry_op rfl, encoded_of_baseEntry_op rfl, encoded_of_baseEntry_n8 (o := 0x10) rfl x,
    encoded_of_baseEntry_op rfl, encoded_of_baseEntry_op rfl, exec_nop s, exec_halt s, exec_stop x s, exec_di s,
    fun hd hi => (exec_ei s).trans (enableInterrupts_delayed_disabled hd hi),
    fun hd hi => (exec_ei s).trans (enableInterrupts_delayed_enabled hd hi),
    fun hd => (exec_ei s).trans (enableInterrupts_immediate hd)⟩

end Sys2Proof.Proofs
end

section
/-! PROOFS. Decoding and encoding are inverse (spec/30_encoding.md): the decoder on an instruction's bytes, by the constructor, and
the bytes that the decoder took, by the entry of the first byte. -/

namespace Sys2Proof.Proofs

open Sys2Proof Sys2Proof.Machine Sys2Proof.Claims

variable {o : Byte} {i : Instr} {bytes rest : List Byte}

/-- The low byte of a 16-bit immediate comes first on both sides (R106). -/
theorem decode_encodeN16 {mk : Word → Instr} (h : baseEntry o = .n16 mk) (nn : Word) (rest : List Byte) :
    decode (encodeN16 o nn ++ rest) = .ok (mk nn, rest) :=
  (decode_of_n16 h (loByte nn) (hiByte nn) rest).trans (by rw [wordOf_bytes])

/-- Settles O1, by the constructor: every operand stands whole in the bytes, and the table's cell at the first byte, or at the byte
after the prefix, is the constructor. -/
theorem decodeOfEncodeIsTheInstruction : Obligations.DecodeOfEncodeIsTheInstruction := by
  intro i rest hwf
  cases i with
  | prefixCb => cases hwf
  | illegal o => exact decode_of_op (baseEntry_of_illegal (wf_illegal_iff.mp hwf)) rest
  | ldBcN16 | ldDeN16 | ldHlN16 | ldSpN16 | ldMemN16Sp | ldMemN16A | ldAMemN16 | jpN16 | jpNzN16 | jpZN16 | jpNcN16 | jpCN16
  | callN16 | callNzN16 | callZN16 | callNcN16 | callCN16 => exact decode_encodeN16 rfl _ rest
  | _ => rfl

/-- Everything the decoder can answer: the instruction of the first byte's entry, with as many bytes after it as the entry asks for. -/
theorem decode_cases (h : decode bytes = .ok (i, rest)) :
    ∃ o, (baseEntry o = .op i ∧ bytes = o :: rest) ∨
      (∃ mk n, baseEntry o = .n8 mk ∧ i = mk n ∧ bytes = o :: n :: rest) ∨
      (∃ mk lo hi, baseEntry o = .n16 mk ∧ i = mk (wordOf hi lo) ∧ bytes = o :: lo :: hi :: rest) ∨
      (∃ p, baseEntry o = .extended ∧ i = extEntry p ∧ bytes = o :: p :: rest) := by
  obtain _ | ⟨o, bytes⟩ := bytes
  · cases h
  refine ⟨o, ?_⟩
  cases hb : baseEntry o with
  | op j =>
    cases (decode_of_op hb bytes).symm.trans h
    exact .inl ⟨rfl, rfl⟩
  | n8 mk =>
    obtain _ | ⟨n, bytes⟩ := bytes
    · simp [decode, hb] at h
    cases (decode_of_n8 hb n bytes).symm.trans h
    exact .inr (.inl ⟨mk, n, rfl, rfl, rfl⟩)
  | n16 mk =>
    obtain _ | ⟨lo, _ | ⟨hi, bytes⟩⟩ := bytes
    · simp [decode, hb] at h
    · simp [decode, hb] at h
    cases (decode_of_n16 hb lo hi bytes).symm.trans h
    exact .inr (.inr (.inl ⟨mk, lo, hi, rfl, rfl, rfl⟩))
  | extended =>
    obtain _ | ⟨p, bytes⟩ := bytes
    · simp [decode, hb] at h
    cases (decode_of_extended hb p bytes).symm.trans h
    exact .inr (.inr (.inr ⟨p, rfl, rfl, rfl⟩))

/-- The bytes that the decoder took are the instruction's encoding. -/
theorem bytes_of_decode (h : decode bytes = .ok (i, rest)) : bytes = encode i ++ rest := by
  obtain ⟨o, hcases⟩ := decode_cases h
  have hentry := baseEntry_encodes o
  obtain ⟨hb, rfl⟩ | ⟨mk, n, hb, rfl, rfl⟩ | ⟨mk, lo, hi, hb, rfl, rfl⟩ | ⟨p, hb, rfl, rfl⟩ := hcases <;> rw [hb] at hentry
  · rw [hentry.2]
    rfl
  · rw [(hentry n).2]
    rfl
  · rw [(hentry (wordOf hi lo)).2, encodeN16, loByte_wordOf, hiByte_wordOf]
    rfl
  · rw [(extEntry_encodes p).2, hentry]
    rfl

/-- Settles O2: the decoder answers well-formed instructions only, and takes their bytes whole. -/
theorem encodeOfDecodeIsTheBytes : Obligations.EncodeOfDecodeIsTheBytes := fun _ _ _ h => ⟨wf_of_decode h, bytes_of_decode h⟩

/-- Settles O5: each word by the cell of its first byte, or of the byte after the prefix. -/
theorem sampleWordsDecode : Obligations.SampleWordsDecode :=
  ⟨decode_of_op rfl [], decode_of_n8 (mk := .stop) rfl 0x5A [], decode_of_n16 (mk := .ldBcN16) rfl 0x34 0x12 [],
    decode_of_op rfl [], decode_of_op rfl [], decode_of_n8 (mk := .jrZE8) rfl 0xFE [], decode_of_op rfl [],
    decode_of_extended rfl 0b00110111 [], decode_of_extended rfl 0b01011110 [], decode_of_op rfl [], decode_of_op rfl []⟩

end Sys2Proof.Proofs
end

section
/-! PROOFS. The bus and the host: the decoder's table (R62), a 16-bit store and load, a collaborator's and an unmapped address, and
what the host's moves reach (R430). -/

namespace Sys2Proof.Proofs

open Sys2Proof Sys2Proof.Machine Sys2Proof.Claims

variable {s : State} {p : Params} {a x : Word}

/-! The address decoder (R62). -/

/-- Settles O26: each branch of the decoder is taken on the addresses of one row. -/
theorem decoderFollowsTheTable : Obligations.DecoderFollowsTheTable := by
  intro p a hfirst hlast
  have ha := a.isLt
  have hlow : p.extRamFirst.toNat = 0xA000 := hfirst ▸ rfl
  have hhigh : p.extRamLast.toNat = 0xBFFF := hlast ▸ rfl
  simp only [region, hlow, hhigh]
  split_ifs <;> simp <;> omega

/-! A 16-bit store and load of bytes that the core stores (R61). -/

/-- A 16-bit read of two bytes that are known goes on with both, and leaves nothing but its two transactions. -/
theorem withRead16_of_byteAt {lo hi : Byte} {k : Word → State → Out} (hlo : s.byteAt a = some lo)
    (hhi : s.byteAt (a + 1) = some hi) :
    withRead16 a s k = k (wordOf hi lo) { s with trace := s.trace ++ [⟨.read, a, lo⟩] ++ [⟨.read, a + 1, hi⟩] } := by
  have hhi' : (s.afterRead .read a).byteAt (a + 1) = some hi := hhi
  rw [withRead16_ok (accessible_of_byteAt hlo) (accessible_of_byteAt hhi), readValue_of_byteAt hlo, readValue_of_byteAt hhi',
    afterRead_of_byteAt _ hhi', afterRead_of_byteAt _ hlo]

theorem accessible_of_coreOwned (h : coreOwned s.params a) : s.accessible a = true :=
  accessible_of_byteAt (exists_byteAt_of_coreOwned h).choose_spec

/-- Settles O28: the two bytes are those of two different cells, so that both are there to read after the store, and the reads leave
memory alone. -/
theorem sixteenBitStoreThenLoadGivesTheValue : Obligations.SixteenBitStoreThenLoadGivesTheValue := by
  intro s a v hlo hhi
  let t := (s.afterWrite a (loByte v)).afterWrite (a + 1) (hiByte v)
  obtain ⟨htlo, hthi, hother⟩ : Stored16 s t a v := stored16_afterWrite s a v
  refine ⟨{ t with trace := t.trace ++ [⟨.read, a, loByte v⟩] ++ [⟨.read, a + 1, hiByte v⟩] }, fun k => ?_, htlo, hthi,
    hother⟩
  calc withWrite16 a v s (fun t => withRead16 a t k)
      = withRead16 a t k := withWrite16_ok (accessible_of_coreOwned hlo) (accessible_of_coreOwned hhi)
    _ = k v _ := by rw [withRead16_of_byteAt (htlo hlo) (hthi hhi), wordOf_bytes]

/-! Collaborators and stubs (R66 to R68, R75). -/

/-- The core stores nothing in a collaborator's or a stub's window, and the window is mapped. -/
theorem byteAt_of_collaborator
    (h : region s.params a = .cartridge ∨ region s.params a = .video ∨ region s.params a = .serialStub ∨
      region s.params a = .soundStub) : s.accessible a = true ∧ s.byteAt a = none := by
  unfold State.accessible State.byteAt
  rcases h with h | h | h | h <;> simp [h]

/-- A write outside the core's own storage changes the promises and the trace alone. -/
theorem afterWrite_of_not_coreOwned (v : Byte) (h : ¬ coreOwned s.params a) :
    s.afterWrite a v =
      { s with answers := s.answers.withdrawn (region s.params a), trace := s.trace ++ [⟨.write, a, v⟩] } := by
  simp only [coreOwned, region_interruptFlag, region_interruptEnable, not_or, not_not] at h
  obtain ⟨hram, hif, hie⟩ := h
  rw [afterWrite_eq, hram, if_neg hif, if_neg hie]

/-- Where no byte is known, the core stores none. -/
theorem not_coreOwned_of_byteAt (h : s.byteAt a = none) : ¬ coreOwned s.params a := fun ho => by
  obtain ⟨w, hw⟩ := exists_byteAt_of_coreOwned ho
  simp [h] at hw

/-- Settles O29: in these windows no byte is known, so that a write reaches the promises alone, and a read answers with the next
promise or a draw. -/
theorem collaboratorWritesChangeNothingInTheCore : Obligations.CollaboratorWritesChangeNothingInTheCore := by
  intro s a v kind r hr
  obtain ⟨hmapped, hnone⟩ := byteAt_of_collaborator hr
  have hwrite := afterWrite_of_not_coreOwned v (not_coreOwned_of_byteAt hnone)
  refine ⟨hmapped, hnone, ⟨?_, ?_, fun q hq => ?_, ?_⟩,
    ⟨rfl, Answers.promised_used .., fun q hq => Answers.promised_used_of_ne _ hq⟩, fun w rest h => ?_, fun h => ?_, ?_⟩
  · rw [hwrite]
  · rw [State.afterWrite_answers]
    exact Answers.promised_withdrawn ..
  · rw [State.afterWrite_answers]
    exact Answers.promised_withdrawn_of_ne _ hq
  · have hnone' : (s.afterWrite a v).byteAt a = none := by rw [hwrite]; exact hnone
    rw [readValue_of_none hnone', State.afterWrite_answers, State.afterWrite_params, Answers.promised_withdrawn]
    simp [State.draw]
  · rw [readValue_of_none hnone]
    simp [r, h]
  · rw [readValue_of_none hnone, h]
    rfl
  · rintro (h | h) <;> rw [h] <;> rfl

/-! Unmapped addresses (R70). -/

theorem accessible_of_unmapped_fatal (h : region s.params a = .unmapped) (hp : s.params.unmappedPolicy = .fatal) :
    s.accessible a = false := by simp [State.accessible, h, hp]

theorem byteAt_of_unmapped_openBus (h : region s.params a = .unmapped) (hp : s.params.unmappedPolicy = .openBus) :
    s.byteAt a = some s.params.openBusByte := by simp [State.byteAt, h, hp]

theorem not_coreOwned_of_unmapped (h : region p a = .unmapped) : ¬ coreOwned p a := by
  simp [coreOwned, ramKey, h]

theorem afterWrite_of_unmapped (v : Byte) (h : region s.params a = .unmapped) :
    s.afterWrite a v = { s with trace := s.trace ++ [⟨.write, a, v⟩] } := by
  rw [afterWrite_of_not_coreOwned v (not_coreOwned_of_unmapped h), h]
  rfl

/-- Settles O30: under the fatal policy the address is not accessible; under open bus its byte is known, so that a read uses up no
promise, and a write is dropped. -/
theorem unmappedAccessFollowsThePolicy : Obligations.UnmappedAccessFollowsThePolicy := by
  intro s a v kr kw h
  constructor
  · intro hp
    have ha := accessible_of_unmapped_fatal h hp
    refine ⟨withRead_no ha, withWrite_no ha, ?_⟩
    rintro rfl
    exact withFetch_no ha
  · intro hp
    have hbyte := byteAt_of_unmapped_openBus h hp
    have ha := accessible_of_byteAt hbyte
    refine ⟨?_, ?_, ?_⟩
    · rw [withRead_ok ha, readValue_of_byteAt hbyte, afterRead_of_byteAt _ hbyte]
    · rw [withWrite_ok ha, afterWrite_of_unmapped v h]
    · rintro rfl
      exact withFetch_of_byteAt hbyte

/-! The host's moves (R430). -/

/-- What a run of host moves may change: a bit of IF from 0 to 1 among bits 4:0, stopped from set to clear, and the promises. -/
structure HostReach (s t : State) : Prop where
  frame : t = { s with ifReg := t.ifReg, stopped := t.stopped, answers := t.answers }
  bitsKept : s.ifReg &&& t.ifReg = s.ifReg
  highKept : t.ifReg &&& 0xE0 = s.ifReg &&& 0xE0
  stopped : t.stopped = true → s.stopped = true

theorem hostReach_refl (s : State) : HostReach s s := ⟨rfl, BitVec.and_self, rfl, id⟩

theorem hostReach_trans {t u : State} (h : HostReach s t) (h' : HostReach t u) : HostReach s u where
  frame := by rw [h'.frame, h.frame]
  bitsKept := by
    calc s.ifReg &&& u.ifReg = s.ifReg &&& t.ifReg &&& u.ifReg := by rw [h.bitsKept]
      _ = s.ifReg := by rw [BitVec.and_assoc, h'.bitsKept, h.bitsKept]
  highKept := h'.highKept.trans h.highKept
  stopped := h.stopped ∘ h'.stopped

theorem byte_and_or_self (v m : Byte) : v &&& (v ||| m) = v := by
  refine BitVec.eq_of_getLsbD_eq fun i _ => ?_
  rw [BitVec.getLsbD_and, BitVec.getLsbD_or]
  cases v.getLsbD i <;> rfl

/-- A mask of five bits reaches no bit above 4 (R412). -/
theorem or_mask_high (v : Byte) (m : BitVec 5) : (v ||| m.setWidth 8) &&& 0xE0 = v &&& 0xE0 := by
  have hm : ∀ m : BitVec 5, m.setWidth 8 &&& (0xE0 : Byte) = 0 := by decide
  rw [BitVec.and_comm, BitVec.and_or_distrib_left, BitVec.and_comm _ (m.setWidth 8), hm, BitVec.and_comm]
  exact BitVec.or_zero

theorem hostReach_apply (s : State) (m : HostMove) : HostReach s (m.apply s) := by
  cases m with
  | raise mask => exact ⟨rfl, byte_and_or_self _ _, or_mask_high _ _, id⟩
  | stopWake => exact ⟨rfl, BitVec.and_self, rfl, fun h => Bool.noConfusion h⟩
  | answers coming => exact ⟨rfl, BitVec.and_self, rfl, id⟩

theorem hostReach_foldl (moves : List HostMove) (s : State) : HostReach s (moves.foldl HostMove.apply s) := by
  induction moves generalizing s with
  | nil => exact hostReach_refl s
  | cons m moves ih => exact hostReach_trans (hostReach_apply s m) (ih _)

/-- The moves before a step start from the state without them in its schedule. -/
theorem hostReach_takeInbox (s : State) : HostReach { s with inbox := s.inbox.tail } s.takeInbox := by
  cases h : s.inbox with
  | nil =>
    rw [takeInbox_of_nil h, List.tail_nil, ← h]
    exact hostReach_refl s
  | cons moves rest => exact takeInbox_of_cons h ▸ hostReach_foldl moves _

/-- Settles O31: each move reaches its own state, and a run of moves no more. -/
theorem hostMovesReachOnlyTheirOwnState : Obligations.HostMovesReachOnlyTheirOwnState := by
  intro s
  obtain ⟨hframe, hbits, hhigh, hstopped⟩ := hostReach_takeInbox s
  exact ⟨hframe, hbits, hhigh, hstopped, takeInbox_of_nil, fun m moves h => takeInbox_of_cons h⟩

end Sys2Proof.Proofs
end

section
/-! PROOFS. What an instruction does to the control state (spec/10_state.md, section 2): said once for every part of a step that
goes through the bus, it ends in a next state, or in a fault raised where nothing of the control state has changed yet. -/

namespace Sys2Proof.Proofs

open Sys2Proof Sys2Proof.Machine Sys2Proof.Claims

variable {s t u w : State} {i : Instr} {Q Q' : State → Prop} {I I' : Byte → Prop}

/-! What is carried along. -/

/-- What no instruction changes; F's low nibble stays 0 (R21). -/
structure Carried (s t : State) : Prop where
  params : t.params = s.params
  inbox : t.inbox = s.inbox
  faulted : t.faulted = s.faulted
  pcStart : t.pcStart = s.pcStart
  past : t.past = s.past
  steps : t.steps = s.steps
  flagsLow : s.f &&& 0x0F = 0 → t.f &&& 0x0F = 0

/-- The control flags, which few instructions change (R28 to R31). -/
structure ControlFlagsKept (s t : State) : Prop where
  ime : t.ime = s.ime
  eiPending : t.eiPending = s.eiPending
  halted : t.halted = s.halted
  stopped : t.stopped = s.stopped

/-- The whole control state is as it was. -/
structure ControlKept (s t : State) : Prop where
  carried : Carried s t
  flags : ControlFlagsKept s t

theorem carried_refl (s : State) : Carried s s := ⟨rfl, rfl, rfl, rfl, rfl, rfl, id⟩

theorem Carried.trans (h : Carried s t) (h' : Carried t u) : Carried s u :=
  ⟨h'.params.trans h.params, h'.inbox.trans h.inbox, h'.faulted.trans h.faulted, h'.pcStart.trans h.pcStart,
    h'.past.trans h.past, h'.steps.trans h.steps, h'.flagsLow ∘ h.flagsLow⟩

theorem controlKept_refl (s : State) : ControlKept s s := ⟨carried_refl s, rfl, rfl, rfl, rfl⟩

/-- An update of registers, flags and what the bus reaches keeps the control state. -/
theorem ControlKept.update (h : ControlKept s u)
    (hu : ControlKept u w := by
      constructor <;> constructor <;> simp [State.shiftFlags, State.bitFlags, State.alu_f]) :
    ControlKept s w where
  carried := h.carried.trans hu.carried
  flags := ⟨hu.flags.ime.trans h.flags.ime, hu.flags.eiPending.trans h.flags.eiPending, hu.flags.halted.trans h.flags.halted,
    hu.flags.stopped.trans h.flags.stopped⟩

/-! How a part of a step ends. -/

/-- How a part of a step that starts in s ends: in a state with Q, or in the fault of an unmapped address, or of an opcode with I,
raised where the control state is still that of s. -/
inductive Ends (s : State) (Q : State → Prop) (I : Byte → Prop) : Out → Prop
  | next {t : State} : Q t → Ends s Q I (.next t)
  | unmapped {u : State} {a : Word} {kind : Access} :
      ControlKept s u → u.accessible a = false → Ends s Q I (raiseUnmapped a kind u)
  | unimplemented {u : State} {o : Byte} : ControlKept s u → I o → Ends s Q I (raiseUnimplemented o u)

namespace Ends

/-- A part that starts later ends the whole. -/
theorem after {o : Out} (hu : ControlKept s u) (h : Ends u Q I o) (hQ : ∀ t, Q t → Q' t) (hI : ∀ o, I o → I' o) :
    Ends s Q' I' o := by
  cases h with
  | next ht => exact .next (hQ _ ht)
  | unmapped hk ha => exact .unmapped (hu.update hk) ha
  | unimplemented hk ho => exact .unimplemented (hu.update hk) (hI _ ho)

theorem ite {c : Prop} [Decidable c] {x y : Out} (hx : Ends s Q I x) (hy : Ends s Q I y) : Ends s Q I (if c then x else y) := by
  split
  · exact hx
  · exact hy

theorem withRead {a : Word} {k : Byte → State → Out} (h : ControlKept s u)
    (hk : ∀ v w, ControlKept s w → Ends s Q I (k v w)) : Ends s Q I (withRead a u k) := by
  obtain ⟨-, e⟩ | ⟨ha, e⟩ := withRead_cases a u k
  · exact e ▸ hk _ _ h.update
  · exact e ▸ .unmapped h ha

theorem withWrite {a : Word} {v : Byte} {k : State → Out} (h : ControlKept s u)
    (hk : ∀ w, ControlKept s w → Ends s Q I (k w)) : Ends s Q I (withWrite a v u k) := by
  obtain ⟨-, e⟩ | ⟨ha, e⟩ := withWrite_cases a v u k
  · exact e ▸ hk _ h.update
  · exact e ▸ .unmapped h ha

theorem withFetch {k : Byte → State → Out} (h : ControlKept s u)
    (hk : ∀ v w, ControlKept s w → Ends s Q I (k v w)) : Ends s Q I (withFetch u k) := by
  obtain ⟨-, e⟩ | ⟨ha, e⟩ := withFetch_cases u k
  · exact e ▸ hk _ _ h.update
  · exact e ▸ .unmapped h ha

theorem withWrite16 {a v : Word} {k : State → Out} (h : ControlKept s u)
    (hk : ∀ w, ControlKept s w → Ends s Q I (k w)) : Ends s Q I (withWrite16 a v u k) :=
  withWrite h fun _ hw => withWrite hw hk

theorem withPush {v : Word} {k : State → Out} (h : ControlKept s u)
    (hk : ∀ w, ControlKept s w → Ends s Q I (k w)) : Ends s Q I (withPush v u k) :=
  withWrite16 h.update hk

theorem withPop {k : Word → State → Out} (h : ControlKept s u)
    (hk : ∀ v w, ControlKept s w → Ends s Q I (k v w)) : Ends s Q I (withPop u k) :=
  withRead h fun _ _ hw => withRead hw fun _ w hw' => hk _ { w with sp := u.sp + 2 } hw'.update

theorem ne_refused {o : Out} (h : Ends s Q I o) (r : Refusal) : o ≠ .refused r := by
  cases h with
  | next => exact fun e => by cases e
  | unmapped => exact raiseUnmapped_ne_refused
  | unimplemented => exact raiseUnimplemented_ne_refused

theorem of_next (h : Ends s Q I (.next t)) : Q t := by
  generalize ho : (.next t : Out) = o at h
  cases h with
  | next ht => cases ho; exact ht
  | unmapped => exact absurd ho.symm raiseUnmapped_ne_next
  | unimplemented => exact absurd ho.symm raiseUnimplemented_ne_next

end Ends

/-! The instructions. -/

/-- What an instruction that completes leaves of the control state, and the cycles it returns. -/
structure Completed (i : Instr) (s t : State) : Prop where
  carried : Carried s t
  cycles : 0 < t.cycles ∧ t.cycles % 4 = 0
  ime : t.ime ≠ s.ime → i = .ei ∨ i = .di ∨ i = .reti
  eiPending : t.eiPending ≠ s.eiPending → i = .ei ∨ i = .di
  halted : t.halted ≠ s.halted → i = .halt
  stopped : t.stopped ≠ s.stopped → ∃ x, i = .stop x
  /-- A new enable waits only where IME is 0 and the delay is on (R394). -/
  enable : s.eiPending = false → t.eiPending = true → t.ime = false ∧ t.params.eiDelayed = true

/-- An instruction ends in a completed state, in the fault of an unmapped address, or in that of its own illegal opcode. -/
abbrev InstrEnds (i : Instr) (s : State) : Out → Prop := Ends s (Completed i s) fun o => i = .illegal o

/-- An update of control flags alone carries the rest. -/
theorem Carried.setControl {m h e p : Bool} {n : Nat} (hc : Carried s u) :
    Carried s { u with ime := m, halted := h, eiPending := e, stopped := p, cycles := n } :=
  ⟨hc.params, hc.inbox, hc.faulted, hc.pcStart, hc.past, hc.steps, hc.flagsLow⟩

/-- POP AF masks F (R21), and the other pairs are not F. -/
theorem controlKept_setStackPair (s : State) (p : StackPair) (v : Word) : ControlKept s (s.setStackPair p v) := by
  refine ⟨⟨by simp, by simp, by simp, by simp, by simp, by simp, ?_⟩, by constructor <;> simp⟩
  cases p with
  | af => exact fun _ => maskedF_low _
  | bc | de | hl => exact id

/-- An instruction that has changed nothing of the control state completes. -/
theorem instrEnds_done {n : Nat} (h : ControlKept s u) (hn : 0 < n ∧ n % 4 = 0 := by decide) : InstrEnds i s (done n u) := by
  obtain ⟨hc, hime, hei, hhalted, hstopped⟩ := h
  exact .next ⟨hc.setControl, hn, absurd hime, absurd hei, absurd hhalted, absurd hstopped,
    fun hs ht => Bool.noConfusion ((hei.trans hs).symm.trans ht)⟩

theorem halt_ends (s : State) : InstrEnds .halt s (halt s) :=
  .next ⟨(carried_refl s).setControl, by simp, absurd rfl, absurd rfl, fun _ => rfl, absurd rfl,
    fun hs ht => Bool.noConfusion (hs.symm.trans ht)⟩

theorem stop_ends (x : Byte) (s : State) : InstrEnds (.stop x) s (stop x s) :=
  .next ⟨(carried_refl s).setControl, by simp, absurd rfl, absurd rfl, absurd rfl, fun _ => ⟨x, rfl⟩,
    fun hs ht => Bool.noConfusion (hs.symm.trans ht)⟩

theorem disableInterrupts_ends (s : State) : InstrEnds .di s (disableInterrupts s) :=
  .next ⟨(carried_refl s).setControl, by simp, fun _ => .inr (.inl rfl), fun _ => .inr rfl, absurd rfl, absurd rfl,
    fun _ ht => Bool.noConfusion ht⟩

/-- EI sets IME or the latch, and the latch only with IME = 0 and the delay on (R394). -/
theorem enableInterrupts_ends (s : State) : InstrEnds .ei s (enableInterrupts s) := by
  cases hd : s.params.eiDelayed with
  | false =>
    rw [enableInterrupts_immediate hd]
    exact .next ⟨(carried_refl s).setControl, by simp, fun _ => .inl rfl, absurd rfl, absurd rfl, absurd rfl,
      fun hs ht => Bool.noConfusion (hs.symm.trans ht)⟩
  | true =>
    cases hi : s.ime with
    | false =>
      rw [enableInterrupts_delayed_disabled hd hi]
      exact .next ⟨(carried_refl s).setControl, by simp, absurd rfl, fun _ => .inl rfl, absurd rfl, absurd rfl,
        fun _ _ => ⟨hi, hd⟩⟩
    | true =>
      rw [enableInterrupts_delayed_enabled hd hi]
      exact instrEnds_done (controlKept_refl s)

theorem returnFromInterrupt_ends (s : State) : InstrEnds .reti s (returnFromInterrupt s) :=
  .withPop (controlKept_refl s) fun v w hw =>
    .next ⟨hw.update.carried.setControl (u := { w with pc := v }), by simp, fun _ => .inr (.inr rfl), absurd hw.flags.eiPending,
      absurd hw.flags.halted, absurd hw.flags.stopped,
      fun hs ht => Bool.noConfusion ((hw.flags.eiPending.trans hs).symm.trans ht)⟩

theorem meaning_ends {o : Out} (hm : Meaning i s o) : InstrEnds i s o := by
  have h := controlKept_refl s
  cases hm with
  | illegal => exact .unimplemented h rfl
  | aluReg | aluImm | incReg | decReg | decimalAdjust | complementA | setCarry | complementCarry | rotateA | shiftReg | testBitReg
  | clearBitReg | raiseBitReg | loadReg | loadImm | loadPairImm | loadSpHl | loadHlSpDisp | incPair | decPair | addHl | addSpDisp
  | jumpAbs | jumpHl | jumpRel | nop => exact instrEnds_done h.update
  | jumpAbsIf | jumpRelIf => exact .ite (instrEnds_done h.update) (instrEnds_done h)
  | aluMem | testBitMem | loadMem | loadPair | loadAbs | loadHighImm | loadHighC | loadMemInc | loadMemDec =>
    exact .withRead h fun _ _ hr => instrEnds_done hr.update
  | storeMem | storeImm | storePair | storeAbs | storeHighImm | storeHighC | storeMemInc | storeMemDec =>
    exact .withWrite h fun _ hw => instrEnds_done hw.update
  | incMem | decMem | shiftMem | clearBitMem | raiseBitMem =>
    exact .withRead h fun _ _ hr => .withWrite hr.update fun _ hw => instrEnds_done hw
  | storeSp => exact .withWrite16 h fun _ hw => instrEnds_done hw
  | pushPair | callAbs | restart => exact .withPush h fun _ hw => instrEnds_done hw.update
  | popPair => exact .withPop h fun _ _ hr => instrEnds_done (hr.update (controlKept_setStackPair ..))
  | returnPop => exact .withPop h fun _ _ hr => instrEnds_done hr.update
  | callAbsIf => exact .ite (.withPush h fun _ hw => instrEnds_done hw.update) (instrEnds_done h)
  | returnPopIf => exact .ite (.withPop h fun _ _ hr => instrEnds_done hr.update) (instrEnds_done h)
  | halt => exact halt_ends s
  | stop x => exact stop_ends x s
  | disableInterrupts => exact disableInterrupts_ends s
  | enableInterrupts => exact enableInterrupts_ends s
  | returnFromInterrupt => exact returnFromInterrupt_ends s

theorem exec_ends (i : Instr) (s : State) : InstrEnds i s (exec i s) := meaning_ends (exec_meaning i s)

theorem completed_of_exec (h : exec i s = .next t) : Completed i s t := Ends.of_next (h ▸ exec_ends i s)

/-- Settles O23: what an instruction that completes leaves of the control state, from the one rule for all the meanings. -/
theorem controlFlagsChangeOnlyByTheirInstructions : Obligations.ControlFlagsChangeOnlyByTheirInstructions := by
  intro i s t h
  have hc := completed_of_exec h
  exact ⟨hc.ime, hc.eiPending, hc.halted, hc.stopped, hc.carried.params, hc.carried.inbox, hc.carried.faulted,
    hc.carried.pcStart, hc.carried.past, hc.carried.steps⟩

end Sys2Proof.Proofs
end

section
/-! PROOFS. What a step can do (R153): its phases from the state the host leaves, and how each ends. -/

namespace Sys2Proof.Proofs

open Sys2Proof Sys2Proof.Machine Sys2Proof.Claims

variable {s t u : State} {i : Instr} {Q : State → Prop} {I : Byte → Prop}

/-! The state in which a step's phases begin, and the one in which it fetches. -/

/-- The host's moves and the clearing of the outputs leave the core as it was (R430). -/
theorem begun_frame (s : State) :
    begun s = { s with
      ifReg := (begun s).ifReg, stopped := (begun s).stopped, answers := (begun s).answers, inbox := s.inbox.tail
      cycles := 0, trace := [], past := s.past ++ s.trace, steps := s.steps + 1 } :=
  congrArg State.beginStep (hostReach_takeInbox s).frame

theorem begun_f (s : State) : (begun s).f = s.f := by rw [begun_frame]
theorem begun_ime (s : State) : (begun s).ime = s.ime := by rw [begun_frame]
theorem begun_eiPending (s : State) : (begun s).eiPending = s.eiPending := by rw [begun_frame]
theorem begun_ram (s : State) : (begun s).ram = s.ram := by rw [begun_frame]
theorem begun_params (s : State) : (begun s).params = s.params := by rw [begun_frame]

theorem atFetch_pc (s : State) : (atFetch s).pc = (begun s).pc := by simp [atFetch]
theorem atFetch_f (s : State) : (atFetch s).f = s.f := by simp [atFetch, begun_f]
theorem atFetch_params (s : State) : (atFetch s).params = s.params := by simp [atFetch, begun_params]
theorem atFetch_eiPending (s : State) : (atFetch s).eiPending = false := latchEnable_eiPending _
theorem atFetch_trace (s : State) : (atFetch s).trace = [] := by simp [atFetch, begun]

/-- The wake changes halted alone (R142). -/
theorem wake_frame (s : State) : s.wake = { s with halted := s.wake.halted } := by
  unfold State.wake
  split <;> rfl

theorem wake_of_running (h : s.halted = false) : s.wake = s := by
  unfold State.wake
  split
  · rw [← h]
  · rfl

/-! The phases. -/

/-- Settles O13: the fault record is asked for before anything else. -/
theorem noStepAfterAFault : Obligations.NoStepAfterAFault := fun s r h => by rw [step, h]

theorem running_of_next (h : step s = .next t) : s.faulted = none := by
  cases hf : s.faulted with
  | none => rfl
  | some r => cases (noStepAfterAFault s r hf).symm.trans h

/-- Everything a step can be: idle, stopped or halted; the service of an interrupt; or a fetch. -/
theorem step_phases (h : s.faulted = none) :
    (∃ halted, step s = done 4 { begun s with halted := halted }) ∨
    ((begun s).stopped = false ∧ (begun s).takesInterrupt = true ∧ step s = service (begun s)) ∨
    (Fetches s ∧ step s = fetchExecute exec (atFetch s)) := by
  have hstep : step s = runPhases exec (begun s) := step_of_running h
  cases hstop : (begun s).stopped with
  | true => exact .inl ⟨_, hstep.trans (runPhases_stopped exec hstop)⟩
  | false =>
    cases hi : (begun s).takesInterrupt with
    | true => exact .inr (.inl ⟨rfl, rfl, hstep.trans (runPhases_service exec hstop hi)⟩)
    | false =>
      cases hh : (begun s).wake.halted with
      | true => exact .inl ⟨_, wake_frame _ ▸ hstep.trans (runPhases_idle exec hstop hi hh)⟩
      | false =>
        have hfetches : Fetches s := ⟨h, hstop, hi, hh⟩
        exact .inr (.inr ⟨hfetches, step_of_fetches hfetches⟩)

/-! How a service and a fetch end. -/

/-- The state in which a service pushes PC: no longer halted, with IME clear (R416). -/
def servicing (s : State) : State := { s with halted := false, ime := false, pcStart := s.pc }

theorem service_ends (s : State) :
    Ends (servicing s) (fun t => ControlKept (servicing s) t ∧ t.cycles = 20) (fun _ => False) (service s) :=
  .withPush (controlKept_refl _) fun _ hw => .next ⟨hw.update, rfl⟩

/-- What phase 4 leaves where it completes: what some instruction leaves, from the state after its fetches (R145 to R147). -/
def RanInstruction (s t : State) : Prop := ∃ i u, ControlKept { s with pcStart := s.pc } u ∧ Completed i u t

theorem fetchExecute_ends (s : State) :
    Ends { s with pcStart := s.pc } (RanInstruction s) (· ∈ illegalBytes) (fetchExecute exec s) := by
  have hrun : ∀ i u, i.wf = true → ControlKept { s with pcStart := s.pc } u →
      Ends { s with pcStart := s.pc } (RanInstruction s) (· ∈ illegalBytes) (exec i u) := fun i u hwf hu =>
    (exec_ends i u).after hu (fun t ht => ⟨i, u, hu, ht⟩) fun o ho => wf_illegal_iff.mp (ho ▸ hwf)
  refine .withFetch (controlKept_refl _) fun o u hu => ?_
  have hentry := baseEntry_encodes o
  split
  next i hb =>
    rw [hb] at hentry
    exact hrun i u hentry.1 hu
  next mk hb =>
    rw [hb] at hentry
    exact .withFetch hu fun n _ => hrun _ _ (hentry n).1
  next mk hb =>
    rw [hb] at hentry
    exact .withFetch hu fun lo _ hu' => .withFetch hu' fun hi _ => hrun _ _ (hentry (wordOf hi lo)).1
  next => exact .withFetch hu fun p _ => hrun _ _ (extEntry_encodes p).1

/-- Settles O15: idle steps are done, and a part that goes through the bus ends without a refusal. -/
theorem noStepRefuses : Obligations.NoStepRefuses := by
  intro s r
  cases hf : s.faulted with
  | some record => rw [noStepAfterAFault s record hf]; exact fun e => by cases e
  | none =>
    obtain ⟨_, e⟩ | ⟨-, -, e⟩ | ⟨-, e⟩ := step_phases hf
    · exact e ▸ done_ne_refused
    · exact e ▸ (service_ends _).ne_refused r
    · exact e ▸ (fetchExecute_ends _).ne_refused r

/-! Faults (R420 to R423). -/

theorem unmapped_of_not_accessible {a : Word} (h : s.accessible a = false) :
    region s.params a = .unmapped ∧ s.params.unmappedPolicy = .fatal := by
  simp only [State.accessible, Bool.or_eq_false_iff, bne_eq_false_iff_eq, beq_eq_false_iff_ne] at h
  obtain ⟨hr, hp⟩ := h
  cases hpolicy : s.params.unmappedPolicy with
  | fatal => exact ⟨hr, rfl⟩
  | openBus => exact absurd hpolicy hp

/-- A fault of a part of a step carries the start of that part's instruction, and is in the record of the state it leaves. -/
theorem Ends.of_fault {f : Fault} (h : Ends s Q I (.fault f)) :
    (∃ o left, f = .unimplementedOpcode o s.pcStart left ∧ I o ∧
      left.faulted = some (.unimplementedOpcode o s.pcStart)) ∨
    (∃ a kind left, f = .unmappedAddress a kind s.pcStart left ∧ s.params.unmappedPolicy = .fatal ∧
      region s.params a = .unmapped ∧ left.faulted = some (.unmappedAddress a kind s.pcStart)) := by
  generalize ho : (.fault f : Out) = o at h
  cases h with
  | next => cases ho
  | unmapped hk ha =>
    cases ho
    obtain ⟨hregion, hpolicy⟩ := unmapped_of_not_accessible ha
    rw [hk.carried.params] at hregion hpolicy
    exact .inr ⟨_, _, _, by rw [hk.carried.pcStart], hpolicy, hregion, rfl⟩
  | unimplemented hk hi =>
    cases ho
    exact .inl ⟨_, _, by rw [hk.carried.pcStart], hi, rfl⟩

/-- Settles O14: an idle step does not fault, and in a service and in phase 4 a fault's start is the PC of the state in which the
step begins. -/
theorem stepFaultsOnlyAsTheSpecSays : Obligations.StepFaultsOnlyAsTheSpecSays := by
  intro s f hrunning hfault
  obtain ⟨_, e⟩ | ⟨-, -, e⟩ | ⟨-, e⟩ := step_phases hrunning
  · exact absurd (e ▸ hfault) done_ne_fault
  · obtain ⟨_, _, -, hnone, -⟩ | ⟨a, kind, left, hf, hpolicy, hregion, hleft⟩ :=
      Ends.of_fault ((e.symm.trans hfault) ▸ service_ends (begun s))
    · exact hnone.elim
    · have hparams : (servicing (begun s)).params = s.params := begun_params s
      exact .inr ⟨a, kind, left, hf, hparams ▸ hpolicy, hparams ▸ hregion, hleft⟩
  · obtain ⟨o, left, hf, hillegal, hleft⟩ | ⟨a, kind, left, hf, hpolicy, hregion, hleft⟩ :=
      Ends.of_fault ((e.symm.trans hfault) ▸ fetchExecute_ends (atFetch s))
    · exact .inl ⟨o, left, hf, hillegal, hleft⟩
    · rw [← atFetch_pc, ← atFetch_params s]
      exact .inr ⟨a, kind, left, hf, hpolicy, hregion, hleft⟩

end Sys2Proof.Proofs
end

section
/-! PROOFS. Interrupts (spec/60_exceptions.md, section 3): the service, its two faults, and the step after it; the wake and the
pending enable (R142, R144). -/

namespace Sys2Proof.Proofs

open Sys2Proof Sys2Proof.Machine Sys2Proof.Claims

variable {s t : State}

/-! Steps that service nothing. -/

/-- No interrupt is serviced with IME = 0 (R142). -/
theorem takesInterrupt_of_disabled (h : s.ime = false) : s.takesInterrupt = false := by simp [State.takesInterrupt, h]

/-- Settles O9: with IME = 0 phase 1 does not service, and its wake leaves the halted state and the running one alike. -/
theorem pendingSourceWakesWithoutService : Obligations.PendingSourceWakesWithoutService := by
  intro s hrunning hsilent hstopped hhalted hime hpending
  have hwake : s.beginStep.wake = { s.beginStep with halted := false } := wake_of_pending hpending
  have hwake' : (State.beginStep { s with halted := false }).wake = { s.beginStep with halted := false } :=
    wake_of_pending hpending
  calc step s
      = fetchExecute exec s.beginStep.wake.latchEnable :=
        (step_of_silent hrunning hsilent).trans
          (runPhases_fetch exec hstopped (takesInterrupt_of_disabled hime) (congrArg State.halted hwake))
    _ = fetchExecute exec (State.beginStep { s with halted := false }).wake.latchEnable := by rw [hwake, hwake']
    _ = step { s with halted := false } :=
        ((step_of_silent (s := { s with halted := false }) hrunning hsilent).trans
          (runPhases_fetch exec hstopped (takesInterrupt_of_disabled hime) (congrArg State.halted hwake'))).symm

/-- Settles O10: with IME still 0 phase 1 does not service, phase 3 sets IME, and DI after it clears both again. -/
theorem pendingEnableTakesEffectBeforeTheFetch : Obligations.PendingEnableTakesEffectBeforeTheFetch := by
  intro s hrunning hsilent hstopped hhalted hime hei u
  have hwake : s.beginStep.wake = s.beginStep := wake_of_running hhalted
  have hlatch : s.beginStep.latchEnable = u := latchEnable_of_pending (s := s.beginStep) hei
  have hfetch : step s = fetchExecute exec u :=
    calc step s
        = fetchExecute exec s.beginStep.wake.latchEnable :=
          (step_of_silent hrunning hsilent).trans
            (runPhases_fetch exec hstopped (takesInterrupt_of_disabled hime) (by rw [hwake]; exact hhalted))
      _ = fetchExecute exec u := by rw [hwake, hlatch]
  refine ⟨hfetch, fun ha hdi => ?_⟩
  rw [hfetch, fetchExecute_of_op (i := .di) exec ha (by rw [hdi]; rfl), exec_di]
  rfl

/-! The service (R416). -/

theorem withPush_ok {v : Word} {k : State → Out} (h0 : s.accessible (s.sp - 2) = true)
    (h1 : s.accessible (s.sp - 2 + 1) = true) : withPush v s k = k (pushed s v) :=
  withWrite16_ok (s := { s with sp := s.sp - 2 }) h0 h1

/-- A push that faults at its first byte has lowered SP (R330). -/
theorem withPush_no_first {v : Word} {k : State → Out} (h0 : s.accessible (s.sp - 2) = false) :
    withPush v s k = raiseUnmapped (s.sp - 2) .write { s with sp := s.sp - 2 } := by
  rw [withPush, withWrite16, withWrite_no (s := { s with sp := s.sp - 2 }) h0]

/-- A push that faults at its second byte has written the first (R422). -/
theorem withPush_no_second {v : Word} {k : State → Out} (h0 : s.accessible (s.sp - 2) = true)
    (h1 : s.accessible (s.sp - 2 + 1) = false) :
    withPush v s k =
      raiseUnmapped (s.sp - 2 + 1) .write ({ s with sp := s.sp - 2 }.afterWrite (s.sp - 2) (loByte v)) := by
  have h1' : ({ s with sp := s.sp - 2 }.afterWrite (s.sp - 2) (loByte v)).accessible (s.sp - 2 + 1) = false :=
    (State.afterWrite_accessible ..).trans h1
  rw [withPush, withWrite16, withWrite_ok (s := { s with sp := s.sp - 2 }) h0, withWrite_no h1']

theorem stored16_pushed (s : State) (v : Word) : Stored16 s (pushed s v) (s.sp - 2) v := by
  obtain ⟨hlo, hhi, hother⟩ := stored16_afterWrite { s with sp := s.sp - 2 } (s.sp - 2) v
  exact ⟨hlo, hhi, hother⟩

/-- What a push changes: SP, the storage, the promises and the trace (R12). -/
theorem pushed_frame (s : State) (v : Word) :
    pushed s v = { s with
      sp := s.sp - 2, ram := (pushed s v).ram, ifReg := (pushed s v).ifReg, ieReg := (pushed s v).ieReg
      answers := (pushed s v).answers
      trace := s.trace ++ [⟨.write, s.sp - 2, loByte v⟩, ⟨.write, s.sp - 2 + 1, hiByte v⟩] } := by
  unfold pushed
  rw [afterWrite_eq, afterWrite_eq]
  simp

theorem sub_two_add_one (w : Word) : w - 2 + 1 = w - 1 := by bv_omega

/-- The lowest bit that is requested and enabled is the source serviced (R414, R415). -/
theorem highest_pending {k : Nat} (hk : k < 5) (hset : (s.ifReg &&& s.ieReg).getLsbD k = true)
    (hlow : ∀ j < k, (s.ifReg &&& s.ieReg).getLsbD j = false) : highest s.pending = k := by
  have hbit : ∀ j < 5, s.pending.getLsbD j = (s.ifReg &&& s.ieReg).getLsbD j := fun j hj => by
    rw [State.pending, BitVec.getLsbD_and, getLsbD_sourceMask, decide_eq_true hj, Bool.and_true]
  exact highest_eq hk ((hbit k hk).trans hset) fun j hj => (hbit j (hj.trans hk)).trans (hlow j hj)

/-- A pending source with IME = 1 is serviced (R142). -/
theorem takesInterrupt_of_bit {k : Nat} (hk : k < 5) (hime : s.ime = true) (hset : (s.ifReg &&& s.ieReg).getLsbD k = true) :
    s.takesInterrupt = true := by
  rw [BitVec.getLsbD_and, Bool.and_eq_true] at hset
  have hbit : s.pending.getLsbD k = true := (getLsbD_pending s k).mpr ⟨hk, hset⟩
  have hne : s.pending ≠ 0 := fun h => by simp [h] at hbit
  rw [State.takesInterrupt, hime, Bool.true_and, bne_iff_ne]
  exact hne

theorem raiseUnmapped_of_pcStart {a start : Word} {kind : Access} (h : s.pcStart = start) :
    raiseUnmapped a kind s = .fault (.unmappedAddress a kind start (faultedAt s a kind)) := h ▸ rfl

/-- Settles O11: the step is the service of the source that the lowest bit names, and the push ends as its two addresses allow. -/
theorem interruptServiceEntersTheLowestPendingVector : Obligations.InterruptServiceEntersTheLowestPendingVector := by
  intro s k hrunning hsilent hstopped hime hk hset hlow s0 u
  have hsource : highest s.beginStep.pending = k := highest_pending hk hset hlow
  have hservice : step s = withPush s.pc s0 fun t =>
      done 20 { t with pc := vectorOf k, ifReg := t.ifReg &&& ~~~(1#8 <<< k) } := by
    rw [step_of_silent hrunning hsilent,
      runPhases_service (s := s.beginStep) exec hstopped (takesInterrupt_of_bit hk hime hset), service, hsource]
    rfl
  rw [hservice, ← sub_two_add_one]
  exact ⟨fun h0 h1 => ⟨withPush_ok (s := s0) h0 h1, stored16_pushed s0 s.pc, pushed_frame s0 s.pc⟩,
    withPush_no_first (s := s0),
    fun h0 h1 => (withPush_no_second (s := s0) h0 h1).trans (raiseUnmapped_of_pcStart (State.afterWrite_pcStart ..))⟩

/-- Settles O12: a service leaves IME = 0, which no host move sets, and the serviced source's bit of IF is clear after the push. -/
theorem noSecondServiceRightAfterAService : Obligations.NoSecondServiceRightAfterAService := by
  intro s t hi hstopped hs
  have hservice : service (begun s) = .next t :=
    ((step_of_running (running_of_next hs)).trans (runPhases_service exec hstopped hi)).symm.trans hs
  obtain ⟨hkept, -⟩ := Ends.of_next (hservice ▸ service_ends (begun s))
  obtain ⟨-, -, v, -, ht⟩ := service_next hservice
  have hime : t.ime = false := hkept.flags.ime
  refine ⟨hime, takesInterrupt_of_disabled ((begun_ime t).trans hime), hkept.flags.halted,
    Bool.eq_false_iff.mpr fun hpending => ?_⟩
  obtain ⟨hk, hif, -⟩ := (getLsbD_pending t _).mp hpending
  simp [ht] at hif

end Sys2Proof.Proofs
end

section
/-! PROOFS. Phase 4 runs the instruction that the fetched bytes decode to (R145 to R147), and what the fetches leave. -/

namespace Sys2Proof.Proofs

open Sys2Proof Sys2Proof.Machine Sys2Proof.Claims

variable {s : State} {i : Instr} {v : Byte} {bytes : List Byte}

/-! The state after some fetches (R11). -/

theorem add_one_add_ofNat (w : Word) (k : Nat) : w + 1 + BitVec.ofNat 16 k = w + BitVec.ofNat 16 (k + 1) := by
  rw [Nat.add_comm k 1, BitVec.ofNat_add, BitVec.add_assoc]
  rfl

/-- Fetches move PC, use up promises and are recorded; nothing else changes. -/
theorem fetched_frame (k : Nat) (s : State) :
    fetched k s = { s with
      pc := s.pc + BitVec.ofNat 16 k, answers := (fetched k s).answers, trace := (fetched k s).trace } := by
  induction k generalizing s with
  | zero => simp [fetched]
  | succ k ih =>
    rw [fetched, ih, add_one_add_ofNat]
    rfl

/-- The fetches from s on give these bytes. -/
def FetchesGive (s : State) (bytes : List Byte) : Prop :=
  ∀ (k : Nat) (v : Byte), bytes[k]? = some v →
    (fetched k s).accessible (fetched k s).pc = true ∧ (fetched k s).readValue (fetched k s).pc = v

theorem fetchesGive_cons (h : FetchesGive s (v :: bytes)) :
    s.accessible s.pc = true ∧ s.readValue s.pc = v ∧ FetchesGive (fetched 1 s) bytes :=
  ⟨(h 0 v rfl).1, (h 0 v rfl).2, fun k w hw => h (k + 1) w hw⟩

/-- The bus events of these fetches, in increasing address order (R76, R147). -/
def fetchEvents (pc : Word) (bytes : List Byte) : List BusEvent :=
  bytes.zipIdx.map fun (v, k) => ⟨.fetch, pc + BitVec.ofNat 16 k, v⟩

theorem fetchEvents_cons (pc : Word) (v : Byte) (bytes : List Byte) :
    fetchEvents pc (v :: bytes) = ⟨.fetch, pc, v⟩ :: fetchEvents (pc + 1) bytes := by
  rw [fetchEvents, List.zipIdx_cons', List.map_cons, List.map_map]
  refine congrArg₂ List.cons (by simp) (List.map_congr_left fun p _ => ?_)
  exact congrArg (BusEvent.mk .fetch · p.1) (add_one_add_ofNat pc p.2).symm

theorem fetched_trace (h : FetchesGive s bytes) : (fetched bytes.length s).trace = s.trace ++ fetchEvents s.pc bytes := by
  induction bytes generalizing s with
  | nil => simp [fetched, fetchEvents]
  | cons v bytes ih =>
    obtain ⟨-, hv, hrest⟩ := fetchesGive_cons h
    calc (fetched (bytes.length + 1) s).trace
        = (fetched 1 s).trace ++ fetchEvents (s.pc + 1) bytes := ih hrest
      _ = s.trace ++ fetchEvents s.pc (v :: bytes) := by
        rw [fetchEvents_cons, ← hv, List.append_cons]
        rfl

/-- Where the core stores the byte at PC, its fetch uses up no promise. -/
theorem fetched_one_of_byteAt (h : s.byteAt s.pc = some v) :
    fetched 1 s = { s with pc := s.pc + 1, trace := s.trace ++ [⟨.fetch, s.pc, v⟩] } := by
  simp only [fetched, afterRead_of_byteAt _ h]

/-- Bytes that stand in memory from PC on are what the fetches give, and use up no promise. -/
theorem fetchesGive_of_byteAt (h : ∀ k v, bytes[k]? = some v → s.byteAt (s.pc + BitVec.ofNat 16 k) = some v) :
    FetchesGive s bytes ∧ (fetched bytes.length s).answers = s.answers := by
  induction bytes generalizing s with
  | nil => exact ⟨fun _ _ hv => by simp at hv, rfl⟩
  | cons v bytes ih =>
    have hv : s.byteAt s.pc = some v := by simpa using h 0 v rfl
    have hone := fetched_one_of_byteAt hv
    obtain ⟨hgive, hanswers⟩ := ih (s := fetched 1 s) fun k w hw => by
      rw [hone, add_one_add_ofNat]
      exact h (k + 1) w hw
    refine ⟨fun k w hw => ?_, hanswers.trans (by rw [hone])⟩
    cases k with
    | zero =>
      obtain rfl : v = w := Option.some.inj hw
      exact ⟨accessible_of_byteAt hv, readValue_of_byteAt hv⟩
    | succ k => exact hgive k w hw

/-! Phase 4 by the bytes it fetches. -/

theorem withFetch_of_gives {k : Byte → State → Out} (h : FetchesGive s (v :: bytes)) :
    withFetch s k = k v (fetched 1 s) := by
  obtain ⟨ha, hv, -⟩ := fetchesGive_cons h
  rw [withFetch_ok ha, hv]
  rfl

/-- Where the fetched bytes are the whole of what the decoder takes for an instruction, phase 4 runs it in the state after them. -/
theorem fetchExecute_of_decode (run : Instr → State → Out) (hdec : decode bytes = .ok (i, []))
    (hgive : FetchesGive { s with pcStart := s.pc } bytes) :
    fetchExecute run s = run i (fetched bytes.length { s with pcStart := s.pc }) := by
  obtain ⟨o, ⟨hb, rfl⟩ | ⟨mk, n, hb, rfl, rfl⟩ | ⟨mk, lo, hi, hb, rfl, rfl⟩ | ⟨p, hb, rfl, rfl⟩⟩ := decode_cases hdec <;>
    obtain ⟨-, -, hgive'⟩ := fetchesGive_cons hgive <;> rw [fetchExecute, withFetch_of_gives hgive, hb]
  · rfl
  · exact withFetch_of_gives hgive'
  · obtain ⟨-, -, hgive''⟩ := fetchesGive_cons hgive'
    exact (withFetch_of_gives hgive').trans (withFetch_of_gives hgive'')
  · exact withFetch_of_gives hgive'

theorem decode_encode (hwf : i.wf = true) : decode (encode i) = .ok (i, []) := by
  have h := decodeOfEncodeIsTheInstruction i [] hwf
  rwa [List.append_nil] at h

/-- Settles O6: the bytes are the encoding, which decodes to the instruction; what the fetches leave is the same wherever the bytes
come from, but for the promises, which stored bytes do not use up. -/
theorem stepRunsTheDecodedInstruction : Obligations.StepRunsTheDecodedInstruction := by
  intro s i hwf hfetches
  have hrun (hgive : FetchesGive (startFetch s) (encode i)) : step s = exec i (fetched (encode i).length (startFetch s)) :=
    (step_of_fetches hfetches).trans (fetchExecute_of_decode exec (decode_encode hwf) hgive)
  have hframe (hgive : FetchesGive (startFetch s) (encode i)) :
      fetched (encode i).length (startFetch s) = { atFetch s with
        pcStart := (atFetch s).pc
        pc := (atFetch s).pc + BitVec.ofNat 16 (encode i).length
        answers := (fetched (encode i).length (startFetch s)).answers
        trace := fetchEvents (atFetch s).pc (encode i) } := by
    have htrace : (fetched (encode i).length (startFetch s)).trace = fetchEvents (atFetch s).pc (encode i) :=
      (fetched_trace hgive).trans (by rw [startFetch, atFetch_trace]; rfl)
    rw [← htrace]
    exact fetched_frame _ _
  refine ⟨fun hgive => ⟨hrun hgive, hframe hgive⟩, fun hstored => ?_⟩
  obtain ⟨hgive, hanswers⟩ := fetchesGive_of_byteAt (s := startFetch s) hstored
  rw [hrun hgive, hframe hgive, hanswers]
  rfl

/-- Settles O17: an unmapped address is not accessible under the fatal policy, and under open bus its byte is 0xFF, whose cell is
RST 0x38. -/
theorem unmappedFetchFollowsThePolicy : Obligations.UnmappedFetchFollowsThePolicy := by
  intro s hfetches hunmapped
  rw [← atFetch_params] at hunmapped ⊢
  refine ⟨fun hp => ?_, fun hp hff => ?_⟩
  · have ha : State.accessible { atFetch s with pcStart := (atFetch s).pc } (atFetch s).pc = false :=
      accessible_of_unmapped_fatal hunmapped hp
    rw [step_of_fetches hfetches]
    exact withFetch_no ha
  · have hbyte : (atFetch s).byteAt (atFetch s).pc = some 0xFF :=
      (byteAt_of_unmapped_openBus hunmapped hp).trans (congrArg some hff)
    rw [step_of_fetches hfetches, fetchExecute_of_op (i := .rst38) exec (accessible_of_byteAt hbyte)
      (by rw [readValue_of_byteAt hbyte]; rfl), afterRead_of_byteAt _ hbyte, atFetch_trace]
    rfl

end Sys2Proof.Proofs
end

section
/-! PROOFS. The invariant at reset, over a step and over a run; what every step returns and leaves (R140, R460). -/

namespace Sys2Proof.Proofs

open Sys2Proof Sys2Proof.Machine Sys2Proof.Claims

variable {s t u : State}

/-! Reset (R460). -/

theorem resetFlags_low (v : Byte) : resetFlags v &&& 0x0F = 0 := by
  unfold resetFlags
  split <;> rfl

/-- The reset contents lie in work RAM and high RAM (R35, R36). -/
theorem owned_of_mem_resetWith {r : ResetInputs} {c : Host.Cell} (hc : c ∈ (State.resetWith r).ram) : ownedAddr c.1 := by
  unfold ownedAddr
  obtain hhigh | hwork := Memory.mem_load _ _ _ c hc
  · rw [List.length_take] at hhigh
    omega
  · obtain hwork | hnil := Memory.mem_load _ _ _ c hwork
    · rw [List.length_take] at hwork
      omega
    · cases hnil

/-- Settles O18: the reset contents are stored into an empty memory, no enable waits, and there is no fault. -/
theorem invariantHoldsAtReset : Obligations.InvariantHoldsAtReset := fun r =>
  { flagsLow := resetFlags_low r.headerChecksum
    ramCanonical := Memory.wf_load _ _ _ (Memory.wf_load _ _ _ Memory.wf_nil)
    ramOwned := fun _ => owned_of_mem_resetWith
    enableWaits := fun h => Bool.noConfusion h
    enableDelayed := fun h => Bool.noConfusion h
    noFault := rfl }

theorem ramKey_highRam {p : Params} {i : Nat} (hi : i < 127) : ramKey p (BitVec.ofNat 16 (0xFF80 + i)) = some (0xFF80 + i) := by
  have ha : (BitVec.ofNat 16 (0xFF80 + i)).toNat = 0xFF80 + i := Nat.mod_eq_of_lt (by omega)
  rw [ramKey_eq, ha, if_neg (by omega), if_neg (by omega), if_pos (by omega)]

/-- Work RAM lies below the reset contents of high RAM. -/
theorem read_resetWith_workRam (r : ResetInputs) {k : Nat} (hk : k < 8192) :
    (State.resetWith r).ram.read (0xC000 + k) = (r.wramInit[k]?).getD Memory.unlisted := by
  rw [State.resetWith, Memory.read_load, if_neg (by omega), Memory.read_load, if_pos (by omega), Memory.read_nil,
    Nat.add_sub_cancel_left, List.getElem?_take_of_lt hk]

/-- The reset contents of work RAM end below high RAM. -/
theorem read_resetWith_highRam (r : ResetInputs) {k : Nat} (hk : k < 127) :
    (State.resetWith r).ram.read (0xFF80 + k) = (r.hramInit[k]?).getD Memory.unlisted := by
  have hnone : (r.wramInit.take 8192)[0xFF80 + k - 0xC000]? = none :=
    List.getElem?_eq_none (by rw [List.length_take]; omega)
  rw [State.resetWith, Memory.read_load, if_pos (by omega), Memory.read_load, if_pos (by omega), Memory.read_nil, hnone,
    Nat.add_sub_cancel_left, List.getElem?_take_of_lt hk]
  rfl

/-- Settles O25: every field is as reset writes it, and a RAM byte reads as the reset contents that cover it. -/
theorem resetSetsEveryState : Obligations.ResetSetsEveryState := by
  intro r s
  refine ⟨rfl, rfl, rfl, rfl, rfl, rfl, rfl, rfl, rfl, rfl, rfl, rfl, rfl, rfl, rfl, rfl, rfl, rfl, fun hw hh =>
    ⟨fun k hk => ?_, fun k hk => ?_⟩⟩
  · rw [byteAt_of_ramKey (ramKey_workRam hk), read_resetWith_workRam r hk, List.getElem?_eq_getElem (hw ▸ hk)]
    rfl
  · rw [byteAt_of_ramKey (ramKey_highRam hk), read_resetWith_highRam r hk, List.getElem?_eq_getElem (hh ▸ hk)]
    rfl

/-! What every step leaves. -/

/-- Everything a step that happens can leave: the state it begins in, but for halted; what a service leaves; or what an instruction
leaves. -/
theorem step_next_cases (h : step s = .next t) :
    (∃ halted, t = { begun s with halted := halted, cycles := 4 }) ∨
    (ControlKept (servicing (begun s)) t ∧ t.cycles = 20) ∨
    RanInstruction (atFetch s) t := by
  obtain ⟨halted, e⟩ | ⟨-, -, e⟩ | ⟨-, e⟩ := step_phases (running_of_next h)
  · exact .inl ⟨halted, done_next (e ▸ h)⟩
  · exact .inr (.inl (Ends.of_next ((e.symm.trans h) ▸ service_ends _)))
  · exact .inr (.inr (Ends.of_next ((e.symm.trans h) ▸ fetchExecute_ends _)))

/-- Settles O24: an idle step returns 4 cycles, a service 20, and an instruction its own count; none changes the parameters. -/
theorem stepReturnsAMultipleOfFourCycles : Obligations.StepReturnsAMultipleOfFourCycles := by
  intro s t h
  rw [← and_assoc]
  obtain ⟨halted, rfl⟩ | ⟨hkept, hcycles⟩ | ⟨i, u, hu, hran⟩ := step_next_cases h
  · exact ⟨by simp, begun_params s⟩
  · exact ⟨by simp [hcycles], hkept.carried.params.trans (begun_params s)⟩
  · exact ⟨hran.cycles, (hu.carried.trans hran.carried).params.trans (atFetch_params s)⟩

theorem step_flagsLow (h : step s = .next t) (hlow : s.f &&& 0x0F = 0) : t.f &&& 0x0F = 0 := by
  obtain ⟨halted, rfl⟩ | ⟨hkept, -⟩ | ⟨i, u, hu, hran⟩ := step_next_cases h
  · exact begun_f s ▸ hlow
  · exact hkept.carried.flagsLow (begun_f s ▸ hlow)
  · exact (hu.carried.trans hran.carried).flagsLow (atFetch_f s ▸ hlow)

/-- An enable that waits after a step waits with IME = 0 and the delay on, if one before it does (R144, R394). -/
theorem step_enable (h : step s = .next t) (hwait : s.eiPending = true → s.ime = false ∧ s.params.eiDelayed = true)
    (hei : t.eiPending = true) : t.ime = false ∧ t.params.eiDelayed = true := by
  obtain ⟨halted, rfl⟩ | ⟨hkept, -⟩ | ⟨i, u, hu, hran⟩ := step_next_cases h
  · obtain ⟨hime, hdelayed⟩ := hwait ((begun_eiPending s).symm.trans hei)
    exact ⟨(begun_ime s).trans hime, begun_params s ▸ hdelayed⟩
  · obtain ⟨-, hdelayed⟩ := hwait ((begun_eiPending s).symm.trans (hkept.flags.eiPending.symm.trans hei))
    have hparams : t.params = s.params := hkept.carried.params.trans (begun_params s)
    exact ⟨hkept.flags.ime, hparams ▸ hdelayed⟩
  · exact hran.enable (hu.flags.eiPending.trans (atFetch_eiPending s)) hei

/-- What the invariant says of the storage and the fault record. -/
structure StorageInv (s : State) : Prop where
  ramCanonical : s.ram.wf
  ramOwned : ∀ c ∈ s.ram, ownedAddr c.1
  noFault : s.faulted = none

theorem storageInv_busClosed : BusClosed StorageInv where
  registers := fun ⟨hcanonical, howned, hfault⟩ hr => ⟨hr.ram ▸ hcanonical, hr.ram ▸ howned, hr.faulted.trans hfault⟩
  read := fun _ _ ⟨hcanonical, howned, hfault⟩ => ⟨hcanonical, howned, hfault⟩
  write := fun a v ⟨hcanonical, howned, hfault⟩ =>
    ⟨(ram_afterWrite _ a v hcanonical howned).1, (ram_afterWrite _ a v hcanonical howned).2,
      (State.afterWrite_faulted ..).trans hfault⟩

theorem step_storageInv (h : step s = .next t) (hs : StorageInv s) : StorageInv t := by
  have hbegun : StorageInv (begun s) := by
    rw [begun_frame]
    exact ⟨hs.ramCanonical, hs.ramOwned, hs.noFault⟩
  obtain ⟨-, v, hv, rfl⟩ | ⟨-, ht⟩ := storageInv_busClosed.step_cases hbegun h
  · exact ⟨hv.ramCanonical, hv.ramOwned, hv.noFault⟩
  · exact ht

/-- Settles O19: the storage by the bus, F and the latch by what each kind of step leaves. -/
theorem stepKeepsTheInvariant : Obligations.StepKeepsTheInvariant := by
  intro s t hs h
  obtain ⟨hcanonical, howned, hfault⟩ := step_storageInv h ⟨hs.ramCanonical, hs.ramOwned, hs.noFault⟩
  have henable := step_enable h fun hei => ⟨hs.enableWaits hei, hs.enableDelayed hei⟩
  exact
    { flagsLow := step_flagsLow h hs.flagsLow
      ramCanonical := hcanonical
      ramOwned := howned
      enableWaits := fun hei => (henable hei).1
      enableDelayed := fun hei => (henable hei).2
      noFault := hfault }

/-! Runs. -/

theorem run_inv (hs : s.Inv) (h : Run s t) : t.Inv := by
  induction h with
  | refl => exact hs
  | step _ hstep ih => exact stepKeepsTheInvariant _ _ ih hstep

/-- Promised answers and a schedule of host moves are no matter of the invariant. -/
theorem inv_of_reachable (h : Reachable s) : s.Inv := by
  obtain ⟨r, answers, inbox, hrun⟩ := h
  obtain ⟨hflags, hcanonical, howned, hwaits, hdelayed, hfault⟩ := invariantHoldsAtReset r
  refine run_inv ?_ hrun
  exact ⟨hflags, hcanonical, howned, hwaits, hdelayed, hfault⟩

/-- Settles O20: the invariant holds at reset and every step keeps it. -/
theorem flagsLowNibbleIsZeroInEveryReachableState : Obligations.FlagsLowNibbleIsZeroInEveryReachableState :=
  fun _ h => (inv_of_reachable h).flagsLow

/-! RAM over a step (R64, R65, R69). -/

theorem ramKey_eq_of_sameCell {p : Params} {x a : Word} (h : sameCell p x a) : ramKey p x = ramKey p a := by
  obtain ⟨-, rfl | ⟨-, he⟩⟩ := h
  · rfl
  · exact he

/-- A byte of RAM depends on the parameters and the storage alone. -/
theorem byteAt_congr_of_ram {a : Word} (hp : t.params = s.params) (hr : t.ram = s.ram) (ha : ramKey s.params a ≠ none) :
    t.byteAt a = s.byteAt a := by
  obtain ⟨n, hn⟩ := Option.ne_none_iff_exists'.mp ha
  rw [byteAt_of_ramKey hn, byteAt_of_ramKey (hp ▸ hn), hr]

/-- Settles O22: what no recorded write names is kept from the state in which the step begins; the host's moves before it and the bit
of IF that a service clears after it are no byte of RAM. -/
theorem ramChangesOnlyByARecordedWrite : Obligations.RamChangesOnlyByARecordedWrite := by
  intro s t a h ha hw
  have hbegun : (begun s).byteAt a = s.byteAt a := byteAt_congr_of_ram (begun_params s) (begun_ram s) ha
  have hother : ∀ ev ∈ t.trace, ev.access = .write → ¬ sameCell (begun s).params a ev.addr := fun ev hev hwr hc =>
    hw ev hev hwr (ramKey_eq_of_sameCell (begun_params s ▸ hc)).symm
  rw [← hbegun]
  obtain ⟨-, v, ⟨hp, hv⟩, rfl⟩ | ⟨-, -, ht⟩ := (unwrittenKept_busClosed _).step_cases (unwrittenKept_refl _) h
  · refine Eq.trans (byteAt_congr_of_ram (s := v) ?_ ?_ ?_) (hv a hother)
    · rfl
    · rfl
    · rwa [hp, begun_params]
  · exact ht a hother

end Sys2Proof.Proofs
end

section
/-! PROOFS. Decimal arithmetic by DAA (spec/41_alu8.md, section 11), and the prefix row (R149). -/

namespace Sys2Proof.Proofs

open Sys2Proof Sys2Proof.Machine Sys2Proof.Claims

variable {s : State} {p : Byte}

/-! ADD or SUB, then DAA (R205). -/

/-- A result of DAA that is two decimal digits of this value, with this carry. -/
def DecimalResult (r : Nat × Bool) (value : Nat) (carry : Prop) : Prop :=
  (r.1 / 16 ≤ 9 ∧ r.1 % 16 ≤ 9) ∧ 10 * (r.1 / 16) + r.1 % 16 = value ∧ (r.2 = true ↔ carry)

/-- DAA after an addition, by the sums of the two digits at each place: a digit sum above 9 asks for 6 more in its place. -/
theorem decimalResult_of_digitSums : ∀ p < 19, ∀ q < 19,
    DecimalResult (daaValue ((16 * p + q) % 256) false (decide (q > 0xF)) (decide (16 * p + q > 0xFF)))
      ((10 * p + q) % 100) (10 * p + q ≥ 100) := by
  unfold DecimalResult
  decide +kernel

/-- DAA after a subtraction, by 9 and the difference of the two digits at each place: a difference below 0 asks for 6 less in its
place. -/
theorem decimalResult_of_digitDifferences : ∀ p < 19, ∀ q < 19,
    DecimalResult (daaValue ((16 * p + q + 103) % 256) true (decide (q < 9)) (decide (16 * p + q < 153)))
      ((10 * p + q + 1) % 100) (10 * p + q < 99) := by
  unfold DecimalResult
  decide +kernel

/-- DAA leaves a decimal result as two digits in A and the carry in C. -/
theorem daa_of_decimalResult {v value : Nat} {n : Bool} {h c carry : Prop} [Decidable h] [Decidable c] (hv : s.a.toNat = v)
    (hn : s.flagN = n) (hh : s.flagH = true ↔ h) (hc : s.flagC = true ↔ c)
    (hr : DecimalResult (daaValue v n (decide h) (decide c)) value carry) :
    ∃ u, exec .daa s = .next u ∧ IsBcd u.a ∧ bcdValue u.a = value ∧ (u.flagC = true ↔ carry) := by
  have hh' : s.flagH = decide h := Bool.eq_iff_iff.mpr (hh.trans decide_eq_true_iff.symm)
  have hc' : s.flagC = decide c := Bool.eq_iff_iff.mpr (hc.trans decide_eq_true_iff.symm)
  obtain ⟨-, u, hu, ⟨ha, -, -, -, hcarry, -⟩, -⟩ := daaAdjustsAsItsTable s
  rw [hv, hn, hh', hc'] at ha hcarry
  obtain ⟨hdigits, hvalue, hc⟩ := hr
  rw [← ha] at hdigits hvalue
  exact ⟨u, hu, hdigits, hvalue, hcarry.trans hc⟩

/-- ADD, then DAA: the digits of the two bytes are summed place by place. -/
theorem daa_after_add {n : Byte} (ha : IsBcd s.a) (hn : IsBcd n) :
    ∃ t u, exec (.addAN8 n) s = .next t ∧ exec .daa t = .next u ∧ IsBcd u.a ∧
      bcdValue u.a = (bcdValue s.a + bcdValue n) % 100 ∧ (u.flagC = true ↔ bcdValue s.a + bcdValue n ≥ 100) := by
  obtain ⟨t, ht, ⟨hsum, -, hN, hH, hC, -⟩, -⟩ := aluImm_changesAF .add s n
  obtain ⟨ha1, ha0⟩ := ha
  obtain ⟨hn1, hn0⟩ := hn
  obtain ⟨p, hp⟩ : ∃ p, p = s.a.toNat / 16 + n.toNat / 16 := ⟨_, rfl⟩
  obtain ⟨q, hq⟩ : ∃ q, q = s.a.toNat % 16 + n.toNat % 16 := ⟨_, rfl⟩
  simp only [Bool.toNat_false, Nat.add_zero] at hsum hH hC
  have hbyte : s.a.toNat + n.toNat = 16 * p + q := by omega
  have hvalue : bcdValue s.a + bcdValue n = 10 * p + q := by unfold bcdValue; omega
  rw [hbyte] at hsum hC
  rw [← hq] at hH
  obtain ⟨u, hu⟩ := daa_of_decimalResult hsum (Bool.eq_false_iff.mpr hN.mp) hH hC
    (decimalResult_of_digitSums p (by omega) q (by omega))
  rw [hvalue]
  exact ⟨t, u, ht, hu⟩

/-- SUB, then DAA: the digits of the two bytes are subtracted place by place. -/
theorem daa_after_sub {n : Byte} (ha : IsBcd s.a) (hn : IsBcd n) :
    ∃ t u, exec (.subN8 n) s = .next t ∧ exec .daa t = .next u ∧ IsBcd u.a ∧
      bcdValue u.a = (bcdValue s.a + 100 - bcdValue n) % 100 ∧ (u.flagC = true ↔ bcdValue s.a < bcdValue n) := by
  obtain ⟨t, ht, ⟨hdiff, -, hN, hH, hC, -⟩, -⟩ := aluImm_changesAF .sub s n
  obtain ⟨ha1, ha0⟩ := ha
  obtain ⟨hn1, hn0⟩ := hn
  obtain ⟨p, hp⟩ : ∃ p, p = s.a.toNat / 16 + 9 - n.toNat / 16 := ⟨_, rfl⟩
  obtain ⟨q, hq⟩ : ∃ q, q = s.a.toNat % 16 + 9 - n.toNat % 16 := ⟨_, rfl⟩
  simp only [difference, Bool.toNat_false] at hdiff hH hC
  have hbyte : t.a.toNat = (16 * p + q + 103) % 256 := by omega
  have hvalue : bcdValue s.a + 100 - bcdValue n = 10 * p + q + 1 := by unfold bcdValue; omega
  have hless : bcdValue s.a < bcdValue n ↔ 10 * p + q < 99 := by unfold bcdValue; omega
  have hhalf : t.flagH = true ↔ q < 9 := hH.trans (by omega)
  have hborrow : t.flagC = true ↔ 16 * p + q < 153 := hC.trans (by omega)
  obtain ⟨u, hu⟩ := daa_of_decimalResult hbyte (hN.mpr trivial) hhalf hborrow
    (decimalResult_of_digitDifferences p (by omega) q (by omega))
  rw [hvalue, hless]
  exact ⟨t, u, ht, hu⟩

/-- Settles O38: the sum and the difference with their half carry and carry are those of O32 and O33, and DAA adjusts them digit by
digit. -/
theorem daaMakesDecimalSumsAndDifferences : Obligations.DaaMakesDecimalSumsAndDifferences := fun _ _ ha hn =>
  ⟨daa_after_add ha hn, daa_after_sub ha hn⟩

/-! The prefix row (R149). -/

/-- The extended instruction that a byte's fields name (R111). -/
def extendedForm (p : Byte) : Instr :=
  match fieldX p, regOfField (fieldZ p) with
  | 0, some r => Forms.shiftReg (shiftOfField (fieldY p)) r
  | 0, none => Forms.shiftMem (shiftOfField (fieldY p))
  | 1, some r => Forms.testBitReg (fieldY p) r
  | 1, none => Forms.testBitMem (fieldY p)
  | 2, some r => Forms.clearBitReg (fieldY p) r
  | 2, none => Forms.clearBitMem (fieldY p)
  | _, some r => Forms.raiseBitReg (fieldY p) r
  | _, none => Forms.raiseBitMem (fieldY p)

theorem extEntry_eq_extendedForm : ∀ p : Byte, extEntry p = extendedForm p := by decide +kernel

theorem exec_extendedForm (p : Byte) (s : State) : exec (extendedForm p) s = extendedOp p s := by
  unfold extendedForm extendedOp
  split <;> simp [*]

theorem exec_prefixCb (p : Byte) (s : State) : exec (.prefixCb p) s = exec (extEntry p) s := by
  rw [extEntry_eq_extendedForm, exec_extendedForm]
  rfl

/-- The operand field is the byte at HL for z = 6 alone (R103). -/
theorem fieldZ_of_regOfField_none (h : regOfField (fieldZ p) = none) : p.toNat % 8 = 6 := by
  have hz : ∀ z : Fin 8, regOfField z = none → z = 6 := by decide
  exact congrArg Fin.val (hz _ h)

/-- The outcome goes on, with PC, SP and IME as in s. -/
def GoesOnInPlace (s : State) (o : Out) : Prop := ∃ t, o = .next t ∧ t.pc = s.pc ∧ t.sp = s.sp ∧ t.ime = s.ime

theorem goesOnInPlace_done {n : Nat} {t : State} (hpc : t.pc = s.pc) (hsp : t.sp = s.sp) (hime : t.ime = s.ime) :
    GoesOnInPlace s (done n t) := ⟨_, rfl, hpc, hsp, hime⟩

theorem goesOnInPlace_withRead {a : Word} {k : Byte → State → Out} (ha : s.accessible a = true)
    (hk : GoesOnInPlace s (k (s.readValue a) (s.afterRead .read a))) : GoesOnInPlace s (withRead a s k) := by
  rwa [withRead_ok ha]

theorem goesOnInPlace_withWrite {n : Nat} {a : Word} {v : Byte} {t : State} (ha : t.accessible a = true) (hpc : t.pc = s.pc)
    (hsp : t.sp = s.sp) (hime : t.ime = s.ime) : GoesOnInPlace s (withWrite a v t (done n)) :=
  ⟨_, withWrite_ok ha, (State.afterWrite_pc ..).trans hpc, (State.afterWrite_sp ..).trans hsp,
    (State.afterWrite_ime ..).trans hime⟩

/-- The forms on a register access no memory, and those at HL read it and write it at most. -/
theorem extendedOp_goesOnInPlace (h : p.toNat % 8 ≠ 6 ∨ s.accessible s.hl = true) : GoesOnInPlace s (extendedOp p s) := by
  have hhl (hz : regOfField (fieldZ p) = none) : s.accessible s.hl = true :=
    h.resolve_left fun hne => hne (fieldZ_of_regOfField_none hz)
  unfold extendedOp
  split
  next => exact goesOnInPlace_done (by simp [State.shiftFlags]) (by simp [State.shiftFlags]) (by simp [State.shiftFlags])
  next hz => exact goesOnInPlace_withRead (hhl hz) (goesOnInPlace_withWrite (hhl hz) rfl rfl rfl)
  next => exact goesOnInPlace_done rfl rfl rfl
  next hz => exact goesOnInPlace_withRead (hhl hz) (goesOnInPlace_done rfl rfl rfl)
  next => exact goesOnInPlace_done (by simp) (by simp) (by simp)
  next hz => exact goesOnInPlace_withRead (hhl hz) (goesOnInPlace_withWrite (hhl hz) rfl rfl rfl)
  next => exact goesOnInPlace_done (by simp) (by simp) (by simp)
  next hz _ _ _ => exact goesOnInPlace_withRead (hhl hz) (goesOnInPlace_withWrite (hhl hz) rfl rfl rfl)

/-- Settles O48: the extended table's cell is the instruction that the byte's fields name, and its meaning is the prefix row's. -/
theorem prefixRunsTheExtendedInstruction : Obligations.PrefixRunsTheExtendedInstruction := fun s p =>
  ⟨⟨extEntry p, decode_of_extended rfl p [], exec_prefixCb p s⟩, extendedOp_goesOnInPlace⟩

end Sys2Proof.Proofs
end
